-- ==== Sys2Proof/Word.lean ====
section
/-! DEFINITION. The fixed-width words of the ports (R60, R63) and the small bounded counts of R23, R24 and R27. -/

namespace Sys2Proof

/-- One byte of a serialised word (R63). -/
abbrev Byte := BitVec 8

/-- A command word, and the data of a response: 32 bits (CMD_W of R6). -/
abbrev Word := BitVec 32

/-- The 24-bit argument field of a Format A word (R80). -/
abbrev Arg := BitVec 24

/-- The microsecond clock and the stored timestamps: 64 bits (CLK_W of R6). -/
abbrev Clock := BitVec 64

/-- A value of the edge counter at rest, or of a FLIP watch point: below N = 20 (R23, R24). The
spec holds it in 5 bits and says that the other values never occur (U17 of 93_implementation_defined.md). -/
abbrev Count := Fin 20

/-- A duty-cycle threshold: 0 to N = 20 (R27). 5 bits in the spec, of which the values above N never
occur (U17 of 93_implementation_defined.md; log entry 9). -/
abbrev Threshold := Fin 21

end Sys2Proof
end

