-- ==== Sys2Proof/Config.lean ====
section
/-! DEFINITION. The parameters of R5, R6 and R7: the constants the spec fixes, and the OPEN ones as opaque constants. -/

namespace Sys2Proof.Config

/-- The top of the counter range, the value of the FULL watch point and the length of a cycle in
rising edges (R5). -/
abbrev N : Nat := 20

/-- The alarm of the delay timer in ticks of one microsecond: DELAY_US * DT_RES_HZ / 10^6 (R5, R6). -/
abbrev dtAlarm : Nat := 2000

/-- CLOCK_INIT (R7), OPEN in the spec: the value of `now` in the model's power-on state.
DESIGN CHOICE, unsafe (log entry 5): 0, the value the spec's vectors use. -/
def clockInit : Clock := 0

/-- GLITCH_FILTER_NS (R7), OPEN in the spec: the value `ENG_START` passes to the counter's glitch
filter. A free value (log entry 4), safe. -/
opaque glitchFilterNs : Arg

/-- FAIL_DRAWS (R7, R66), OPEN in the spec: the n-th bit the failure oracle supplies, where the state
does not hold it already. A free value (log entry 2), safe. -/
opaque failDraws : Nat → Bool

end Sys2Proof.Config
end

