-- ==== Sys2Proof/Syntax.lean ====
section
/-! DEFINITION. The seventeen commands of R84, one constructor per row of spec/opcode_table.json. -/

namespace Sys2Proof

/-- A command of the block (R84). Operands are the values R81 assembles from the argument field:
unsigned for the counter's commands, signed for `SET_DUTY_CYCLE`. -/
inductive Instr where
  /-- `EC_CONFIGURE g` (R105): `g` the glitch filter in nanoseconds. -/
  | ecConfigure (g : Nat)
  /-- `EC_ADD_WP v` (R106): `v` the watch-point value. -/
  | ecAddWp (v : Nat)
  /-- `EC_REMOVE_WP v` (R107): `v` the watch-point value. -/
  | ecRemoveWp (v : Nat)
  /-- `EC_CLEAR` (R108). -/
  | ecClear
  /-- `EC_GET_COUNT` (R109). -/
  | ecGetCount
  /-- `DT_CONFIGURE` (R123). -/
  | dtConfigure
  /-- `DT_RESET_AND_START` (R124). -/
  | dtResetAndStart
  /-- `DT_STOP` (R125). -/
  | dtStop
  /-- `ENG_START` (R136). -/
  | engStart
  /-- `SET_DUTY_CYCLE t` (R137): `t` the threshold asked for, possibly negative. -/
  | setDutyCycle (t : Int)
  /-- `GET_DUTY_CYCLE` (R138). -/
  | getDutyCycle
  /-- `GET_TRIGGER_COUNT` (R180). -/
  | getTriggerCount
  /-- `GET_CYCLE_COUNT` (R181). -/
  | getCycleCount
  /-- `GET_LAST_CYCLE_TIME` (R182). -/
  | getLastCycleTime
  /-- `GET_FREQUENCY` (R183). -/
  | getFrequency
  /-- `TAKE_APPLY_RESULT` (R185). -/
  | takeApplyResult
  /-- `GET_STATUS` (R186). -/
  | getStatus
deriving DecidableEq, Repr

/-- The mnemonic of R84. -/
def Instr.mnemonic : Instr → String
  | .ecConfigure _ => "EC_CONFIGURE"
  | .ecAddWp _ => "EC_ADD_WP"
  | .ecRemoveWp _ => "EC_REMOVE_WP"
  | .ecClear => "EC_CLEAR"
  | .ecGetCount => "EC_GET_COUNT"
  | .dtConfigure => "DT_CONFIGURE"
  | .dtResetAndStart => "DT_RESET_AND_START"
  | .dtStop => "DT_STOP"
  | .engStart => "ENG_START"
  | .setDutyCycle _ => "SET_DUTY_CYCLE"
  | .getDutyCycle => "GET_DUTY_CYCLE"
  | .getTriggerCount => "GET_TRIGGER_COUNT"
  | .getCycleCount => "GET_CYCLE_COUNT"
  | .getLastCycleTime => "GET_LAST_CYCLE_TIME"
  | .getFrequency => "GET_FREQUENCY"
  | .takeApplyResult => "TAKE_APPLY_RESULT"
  | .getStatus => "GET_STATUS"

end Sys2Proof
end

