-- ==== Sys2Proof/WellFormed.lean ====
section
/-! DEFINITION. Which operands a command word can carry (R94). -/

namespace Sys2Proof

/-- A value the unsigned argument can carry: R94's [0, 2^24 - 1]. -/
abbrev unsignedArgFits (v : Nat) : Prop := v < 2 ^ 24

/-- A value the signed argument can carry: R94's [-2^23, 2^23 - 1]. -/
abbrev signedArgFits (t : Int) : Prop := -(2 ^ 23) ≤ t ∧ t < 2 ^ 23

/-- The operands lie in the ranges of R94. A range that a command's own rule checks (`0 < v ≤ N`,
`0 ≤ t ≤ N`) is no part of this: a word outside it is a legal command, answered `ERR_INVALID_ARG`. -/
def Instr.wellFormed : Instr → Bool
  | .ecConfigure g => decide (unsignedArgFits g)
  | .ecAddWp v => decide (unsignedArgFits v)
  | .ecRemoveWp v => decide (unsignedArgFits v)
  | .setDutyCycle t => decide (signedArgFits t)
  | .ecClear => true
  | .ecGetCount => true
  | .dtConfigure => true
  | .dtResetAndStart => true
  | .dtStop => true
  | .engStart => true
  | .getDutyCycle => true
  | .getTriggerCount => true
  | .getCycleCount => true
  | .getLastCycleTime => true
  | .getFrequency => true
  | .takeApplyResult => true
  | .getStatus => true

end Sys2Proof
end

