-- ==== Sys2Proof/Decode.lean ====
section
/-! DEFINITION. The decoder and the encoder of R80 to R86, the assembler of R94 and R95, and the byte form of a word (R63). -/

namespace Sys2Proof

/-! ### Fields of a word (R80, R81) -/

/-- `op`, bits 31:24. -/
def opField (w : Word) : BitVec 8 := w.extractLsb' 24 8

/-- `arg`, bits 23:0. -/
def argField (w : Word) : Arg := w.extractLsb' 0 24

/-- `zext_24` of R12. -/
def zext24 (a : Arg) : Nat := a.toNat

/-- `sext_24` of R12: the field as a two's-complement integer. -/
def sext24 (a : Arg) : Int := a.toInt

/-! ### The decoder -/

/-- Why a word, or a string of bytes, selects no command (R85). The block answers `ERR_UNKNOWN_OP` in
each case of a word; the names say which clause of R85 it falls under. -/
inductive DecodeError where
  /-- No row of R84 has this `op`. -/
  | unknownOp (op : BitVec 8)
  /-- A Format Z `op` with non-zero bits 23:0. -/
  | nonZeroField (op : BitVec 8) (arg : Arg)
  /-- A serialised command that is not four bytes long (R61, R64). -/
  | wrongLength (bytes : Nat)
deriving DecidableEq, Repr

/-- A Format Z word: the low 24 bits must be 0 (R80). -/
def formatZ (w : Word) (i : Instr) : Except DecodeError Instr :=
  if argField w = 0 then .ok i else .error (.nonZeroField (opField w) (argField w))

/-- The command a word selects (R84), or why it selects none (R85). It depends on the word alone (R86). -/
def decode (w : Word) : Except DecodeError Instr :=
  match (opField w).toNat with
  | 0x10 => .ok (.ecConfigure (zext24 (argField w)))
  | 0x11 => .ok (.ecAddWp (zext24 (argField w)))
  | 0x12 => .ok (.ecRemoveWp (zext24 (argField w)))
  | 0x13 => formatZ w .ecClear
  | 0x14 => formatZ w .ecGetCount
  | 0x20 => formatZ w .dtConfigure
  | 0x21 => formatZ w .dtResetAndStart
  | 0x22 => formatZ w .dtStop
  | 0x30 => formatZ w .engStart
  | 0x31 => .ok (.setDutyCycle (sext24 (argField w)))
  | 0x32 => formatZ w .getDutyCycle
  | 0x40 => formatZ w .getTriggerCount
  | 0x41 => formatZ w .getCycleCount
  | 0x42 => formatZ w .getLastCycleTime
  | 0x43 => formatZ w .getFrequency
  | 0x44 => formatZ w .takeApplyResult
  | 0x45 => formatZ w .getStatus
  | _ => .error (.unknownOp (opField w))

/-! ### Bytes (R63) -/

/-- A word as a test bench serialises it: little-endian, byte 0 is bits 7:0 (R63; log entry 11). -/
def wordBytes (w : Word) : List Byte :=
  [w.extractLsb' 0 8, w.extractLsb' 8 8, w.extractLsb' 16 8, w.extractLsb' 24 8]

/-- The word that four serialised bytes stand for (R63). -/
def wordOfBytes : List Byte → Except DecodeError Word
  | [b0, b1, b2, b3] => .ok (b3 ++ b2 ++ b1 ++ b0)
  | bs => .error (.wrongLength bs.length)

/-- The command that a serialised word selects. -/
def decodeBytes (bs : List Byte) : Except DecodeError Instr :=
  match wordOfBytes bs with
  | .ok w => decode w
  | .error e => .error e

/-- The word whose low `nbits` bits are those of `w` and whose other bits are 0. -/
def tableWord (nbits w : Nat) : Word := BitVec.ofNat 32 (w % 2 ^ nbits)

/-- The instruction the decoder reads from the word `w`, given as spec/opcode_table.json numbers its
bits, in its serialised form. -/
def decodeTableWord (nbits w : Nat) : Option Instr :=
  match decodeBytes (wordBytes (tableWord nbits w)) with
  | .ok i => some i
  | .error _ => none

/-! ### The encoder (R84, R94) -/

/-- The `op` column of R84. -/
def opcode : Instr → BitVec 8
  | .ecConfigure _ => 0x10
  | .ecAddWp _ => 0x11
  | .ecRemoveWp _ => 0x12
  | .ecClear => 0x13
  | .ecGetCount => 0x14
  | .dtConfigure => 0x20
  | .dtResetAndStart => 0x21
  | .dtStop => 0x22
  | .engStart => 0x30
  | .setDutyCycle _ => 0x31
  | .getDutyCycle => 0x32
  | .getTriggerCount => 0x40
  | .getCycleCount => 0x41
  | .getLastCycleTime => 0x42
  | .getFrequency => 0x43
  | .takeApplyResult => 0x44
  | .getStatus => 0x45

/-- The low 24 bits: `value mod 2^24` for Format A (R94), 0 for Format Z (R80). -/
def argument : Instr → Arg
  | .ecConfigure g => BitVec.ofNat 24 g
  | .ecAddWp v => BitVec.ofNat 24 v
  | .ecRemoveWp v => BitVec.ofNat 24 v
  | .setDutyCycle t => BitVec.ofInt 24 t
  | _ => 0

/-- The word of a command: `(op << 24) | (value mod 2^24)` (R94). -/
def encode (i : Instr) : Word := opcode i ++ argument i

/-! ### The opcode map as a table (R84) -/

/-- The two formats of R80. -/
inductive Format where
  /-- With a 24-bit argument. -/
  | A
  /-- Without an argument: bits 23:0 are 0. -/
  | Z
deriving DecidableEq, Repr

/-- A row of R84: a word `w` selects it when `w & mask = pattern`. -/
structure Row where
  /-- The `Mnemonic` column. -/
  mnemonic : String
  /-- The `Fmt` column. -/
  format : Format
  /-- The `match` column. -/
  pattern : Word
  /-- The `mask` column. -/
  mask : Word
deriving DecidableEq, Repr

/-- The word selects the row (R84). -/
def Row.selectedBy (r : Row) (w : Word) : Bool := w &&& r.mask == r.pattern

/-- The seventeen rows of R84, as the spec prints them. -/
def opcodeTable : List Row :=
  [ ⟨"EC_CONFIGURE", .A, 0x10000000, 0xFF000000⟩,
    ⟨"EC_ADD_WP", .A, 0x11000000, 0xFF000000⟩,
    ⟨"EC_REMOVE_WP", .A, 0x12000000, 0xFF000000⟩,
    ⟨"EC_CLEAR", .Z, 0x13000000, 0xFFFFFFFF⟩,
    ⟨"EC_GET_COUNT", .Z, 0x14000000, 0xFFFFFFFF⟩,
    ⟨"DT_CONFIGURE", .Z, 0x20000000, 0xFFFFFFFF⟩,
    ⟨"DT_RESET_AND_START", .Z, 0x21000000, 0xFFFFFFFF⟩,
    ⟨"DT_STOP", .Z, 0x22000000, 0xFFFFFFFF⟩,
    ⟨"ENG_START", .Z, 0x30000000, 0xFFFFFFFF⟩,
    ⟨"SET_DUTY_CYCLE", .A, 0x31000000, 0xFF000000⟩,
    ⟨"GET_DUTY_CYCLE", .Z, 0x32000000, 0xFFFFFFFF⟩,
    ⟨"GET_TRIGGER_COUNT", .Z, 0x40000000, 0xFFFFFFFF⟩,
    ⟨"GET_CYCLE_COUNT", .Z, 0x41000000, 0xFFFFFFFF⟩,
    ⟨"GET_LAST_CYCLE_TIME", .Z, 0x42000000, 0xFFFFFFFF⟩,
    ⟨"GET_FREQUENCY", .Z, 0x43000000, 0xFFFFFFFF⟩,
    ⟨"TAKE_APPLY_RESULT", .Z, 0x44000000, 0xFFFFFFFF⟩,
    ⟨"GET_STATUS", .Z, 0x45000000, 0xFFFFFFFF⟩ ]

/-! ### The assembler (R94, R95) -/

/-- The `value` that R94 writes after a mnemonic: the operand of a Format A command, none for Format Z. -/
def Instr.value? : Instr → Option Int
  | .ecConfigure g => some g
  | .ecAddWp v => some v
  | .ecRemoveWp v => some v
  | .setDutyCycle t => some t
  | .ecClear => none
  | .ecGetCount => none
  | .dtConfigure => none
  | .dtResetAndStart => none
  | .dtStop => none
  | .engStart => none
  | .getDutyCycle => none
  | .getTriggerCount => none
  | .getCycleCount => none
  | .getLastCycleTime => none
  | .getFrequency => none
  | .takeApplyResult => none
  | .getStatus => none

/-- An unsigned argument of R94, refused outside [0, 2^24 - 1]. -/
def unsignedArg? (v : Int) : Option Nat :=
  if 0 ≤ v ∧ v < 2 ^ 24 then some v.toNat else none

/-- A signed argument of R94, refused outside [-2^23, 2^23 - 1]. -/
def signedArg? (v : Int) : Option Int :=
  if -(2 ^ 23) ≤ v ∧ v < 2 ^ 23 then some v else none

/-- `SET_DUTY_PERCENT p` of R95: for a multiple of 100 / N in [0, 100], `SET_DUTY_CYCLE (p * N / 100)`. -/
def setDutyPercent? (p : Int) : Option Instr :=
  if 0 ≤ p ∧ p ≤ 100 ∧ p % 5 = 0 then some (.setDutyCycle (p * Config.N / 100)) else none

/-- The command that a mnemonic and its value stand for: the seventeen of R84, the alias
`REQUEST_DUTY_CYCLE` and the pseudo-command `SET_DUTY_PERCENT` of R95. -/
def parse (mnemonic : String) (value : Option Int) : Option Instr :=
  match mnemonic, value with
  | "EC_CONFIGURE", some v => (unsignedArg? v).map .ecConfigure
  | "EC_ADD_WP", some v => (unsignedArg? v).map .ecAddWp
  | "EC_REMOVE_WP", some v => (unsignedArg? v).map .ecRemoveWp
  | "EC_CLEAR", none => some .ecClear
  | "EC_GET_COUNT", none => some .ecGetCount
  | "DT_CONFIGURE", none => some .dtConfigure
  | "DT_RESET_AND_START", none => some .dtResetAndStart
  | "DT_STOP", none => some .dtStop
  | "ENG_START", none => some .engStart
  | "SET_DUTY_CYCLE", some v => (signedArg? v).map .setDutyCycle
  | "REQUEST_DUTY_CYCLE", some v => (signedArg? v).map .setDutyCycle
  | "SET_DUTY_PERCENT", some p => setDutyPercent? p
  | "GET_DUTY_CYCLE", none => some .getDutyCycle
  | "GET_TRIGGER_COUNT", none => some .getTriggerCount
  | "GET_CYCLE_COUNT", none => some .getCycleCount
  | "GET_LAST_CYCLE_TIME", none => some .getLastCycleTime
  | "GET_FREQUENCY", none => some .getFrequency
  | "TAKE_APPLY_RESULT", none => some .takeApplyResult
  | "GET_STATUS", none => some .getStatus
  | _, _ => none

/-- The word that R94's assembly gives for a mnemonic and its value. -/
def assemble (mnemonic : String) (value : Option Int) : Option Word :=
  (parse mnemonic value).map encode

/-- The value of a digit in base 10 or 16, lower or upper case. -/
def digitValue (base : Nat) (c : Char) : Option Nat :=
  let d :=
    if '0' ≤ c ∧ c ≤ '9' then c.toNat - '0'.toNat
    else if 'a' ≤ c ∧ c ≤ 'f' then c.toNat - 'a'.toNat + 10
    else if 'A' ≤ c ∧ c ≤ 'F' then c.toNat - 'A'.toNat + 10
    else base
  if d < base then some d else none

/-- The number that digits stand for, most significant first, after the digits read so far. -/
def digitsValue (base : Nat) : Nat → List Char → Option Nat
  | acc, [] => some acc
  | acc, c :: cs => (digitValue base c).bind fun d => digitsValue base (acc * base + d) cs

/-- An unsigned numeral of R94: `0x` and hexadecimal digits, or decimal digits. -/
def numeral : List Char → Option Nat
  | '0' :: 'x' :: c :: cs => digitsValue 16 0 (c :: cs)
  | c :: cs => digitsValue 10 0 (c :: cs)
  | [] => none

/-- An integer of R94, possibly negative. -/
def integer : List Char → Option Int
  | '-' :: cs => (numeral cs).map fun n => -(n : Int)
  | cs => (numeral cs).map fun n => (n : Int)

/-- The word that one line of R94's syntax assembles to: `MNEMONIC` or `MNEMONIC value`, with one
space between the two. -/
def assembleText (line : String) : Option Word :=
  match line.toList.span (· ≠ ' ') with
  | (m, []) => assemble (String.ofList m) none
  | (m, _ :: v) => (integer v).bind fun n => assemble (String.ofList m) (some n)

end Sys2Proof
end

