-- ==== Sys2Proof/Machine/State.lean ====
section
/-! DEFINITION. The state of the block (R20, R23 to R32), its output ports (R62), and the environment's steps still to come. -/

namespace Sys2Proof.Machine

/-- A step of the environment (R8, R14): what the outside does next. The level of `zc_in` is no part of
it (R60; log entry 15). -/
inductive Input where
  /-- `RISE`: a rising edge of the filtered zero-cross input. -/
  | rise
  /-- `FALL`: a falling edge of the filtered zero-cross input. -/
  | fall
  /-- `TICK`: one microsecond passes. -/
  | tick
  /-- `CMD(w)`: the host presents the command word `w`. -/
  | cmd (w : Word)
  /-- `RESET`. -/
  | reset
deriving DecidableEq, Repr

/-- A level of the output pin (R29). -/
inductive Level where
  /-- 0: relay off. -/
  | low
  /-- 1: relay on. -/
  | high
deriving DecidableEq, Repr

/-- The engine's lifecycle `eng_state` (R27); the code 3 never occurs (R35 I8). -/
inductive EngState where
  /-- 0: "the engine has not yet started". -/
  | idle
  /-- 1: armed. -/
  | running
  /-- 2: a fatal setup error; left only by `RESET`. -/
  | failed
deriving DecidableEq, Repr

/-- The outcome of the last application, `last_apply_result` (R27); the codes 5 to 7 never occur (R35 I8). -/
inductive ApplyResult where
  /-- 0: nothing to report. -/
  | none
  /-- 1 APPLY_OK. -/
  | ok
  /-- 2 APPLY_FAIL_REMOVE: the old watch point could not be removed; nothing changed. -/
  | failRemove
  /-- 3 APPLY_FAIL_ROLLED_BACK: the new watch point could not be added; the old one stands. -/
  | failRolledBack
  /-- 4 APPLY_FAIL_UNRESTORED: nor could the old one be put back. -/
  | failUnrestored
deriving DecidableEq, Repr

/-- A status code of R83; the codes 6 to 255 are never produced. -/
inductive Status where
  /-- 0 `OK`. -/
  | ok
  /-- 1 `ERR_INVALID_ARG`. -/
  | invalidArg
  /-- 2 `ERR_INVALID_STATE`. -/
  | invalidState
  /-- 3 `ERR_HW_FAIL`. -/
  | hwFail
  /-- 4 `ERR_UNKNOWN_OP`. -/
  | unknownOp
  /-- 5 `ERR_NOT_VALID`. -/
  | notValid
deriving DecidableEq, Repr

/-- Everything the spec gives the block, one field for each of its names, and the model's own record
of the environment at the end. -/
structure State where
  /-- `ec_configured` (R23): the counter counts only while this is 1. -/
  ecConfigured : Bool
  /-- `ec_glitch_ns` (R23): the glitch-filter setting last given; no effect on any rule (R113). -/
  ecGlitchNs : Arg
  /-- `ec_count` (R23). -/
  ecCount : Count
  /-- `wp_flip_valid` (R24): a FLIP watch point is registered. -/
  wpFlipValid : Bool
  /-- `wp_flip_val` (R24): its threshold; a don't-care while not valid. -/
  wpFlipVal : Count
  /-- `wp_full_valid` (R24): the FULL watch point, value N, is registered. -/
  wpFullValid : Bool
  /-- `evt_flip_pending` (R25): a FLIP event waits for `WP_SERVICE`. -/
  evtFlipPending : Bool
  /-- `evt_flip_val` (R25): the count that raised it; a don't-care while not pending. -/
  evtFlipVal : Count
  /-- `evt_full_pending` (R25): a FULL event waits for `WP_SERVICE`. -/
  evtFullPending : Bool
  /-- `dt_configured` (R26). -/
  dtConfigured : Bool
  /-- `dt_running` (R26): the timer is counting. -/
  dtRunning : Bool
  /-- `dt_count` (R26): ticks since the last arm. -/
  dtCount : BitVec 32
  /-- `dt_evt_pending` (R26): an expiry waits for `DT_SERVICE`. -/
  dtEvtPending : Bool
  /-- `eng_state` (R27). -/
  engState : EngState
  /-- `active_threshold` (R27): the setting in force, "authoritative". -/
  activeThreshold : Threshold
  /-- `pending_valid` (R27). -/
  pendingValid : Bool
  /-- `pending_threshold` (R27): a request awaiting application; a don't-care while not valid. -/
  pendingThreshold : Threshold
  /-- `last_apply_result` (R27). -/
  lastApplyResult : ApplyResult
  /-- `apply_event_pending` (R27): a notification for the host. -/
  applyEventPending : Bool
  /-- `pol` (R28), the intent: the level the expiry handler is to write, if any. -/
  pol : Option Level
  /-- `out` (R29), the relay control pin. -/
  out : Level
  /-- `now` (R30), the microsecond clock. -/
  now : Clock
  /-- `prev_full_ts` (R30): `now` at the last FULL event serviced; a don't-care while not valid. -/
  prevFullTs : Clock
  /-- `prev_full_valid` (R30): a FULL event has been serviced since START. -/
  prevFullValid : Bool
  /-- `trigger_count` (R31). -/
  triggerCount : BitVec 32
  /-- `cycle_count` (R31). -/
  cycleCount : BitVec 32
  /-- `last_cycle_time_us` (R31). -/
  lastCycleTimeUs : BitVec 32
  /-- `last_cycle_valid` (R31): two FULL events have been serviced since START. -/
  lastCycleValid : Bool
  /-- `fault.WP_OVERRUN` (R32), sticky. -/
  faultWpOverrun : Bool
  /-- `fault.ARM_SUPERSEDE` (R32), sticky. -/
  faultArmSupersede : Bool
  /-- `fault.FLIP_UNRESTORED` (R32), sticky. -/
  faultFlipUnrestored : Bool
  /-- `resp_status` (R60, R62), an output port that holds the status of the last command (log entry 10). -/
  respStatus : Status
  /-- `resp_data` (R60, R62), an output port that holds the data of the last command. -/
  respData : Word
  /-- The model's own: the environment's steps still to come (R8; log entry 1). -/
  inputs : List Input
  /-- The model's own: the next bits of FAIL_DRAWS that are known, `true` for 1 (R66; log entry 2). -/
  draws : List Bool
  /-- The model's own: how many bits of FAIL_DRAWS have been taken (log entry 2). -/
  drawCount : Nat
  /-- The model's own: SERVICE_LATENCY (R7, R207). One bit for each time a handler step is enabled,
  `true` where it lags behind an environment step; empty is the reference schedule of R9 (log entry 3). -/
  deferrals : List Bool
deriving DecidableEq, Repr

/-- The state after power-on: `RESET`'s column of R23 to R32 and R230, with `now` at CLOCK_INIT.
The environment's fields hold nothing: nothing executes until the environment takes a step (R231).
DESIGN CHOICE, unsafe (log entries 5 and 6): `now` and the model's own fields. -/
def State.reset : State where
  ecConfigured := false
  ecGlitchNs := 0
  ecCount := 0
  wpFlipValid := false
  wpFlipVal := 0
  wpFullValid := false
  evtFlipPending := false
  evtFlipVal := 0
  evtFullPending := false
  dtConfigured := false
  dtRunning := false
  dtCount := 0
  dtEvtPending := false
  engState := .idle
  activeThreshold := 0
  pendingValid := false
  pendingThreshold := 0
  lastApplyResult := .none
  applyEventPending := false
  pol := none
  out := .low
  now := Config.clockInit
  prevFullTs := 0
  prevFullValid := false
  triggerCount := 0
  cycleCount := 0
  lastCycleTimeUs := 0
  lastCycleValid := false
  faultWpOverrun := false
  faultArmSupersede := false
  faultFlipUnrestored := false
  respStatus := .ok
  respData := 0
  inputs := []
  draws := []
  drawCount := 0
  deferrals := []

/-- Why the machine would stop. It has no constructor: no step of the block stops it. Its errors are
response statuses (R200), and every trace has a defined behaviour (70_reset_and_hazards.md section 3;
log entry 18). Safe. -/
inductive Fault
deriving DecidableEq, Repr

/-- Why a command would have no meaning in the model. -/
inductive Refusal where
  /-- Raised by an arm of `exec` whose command has no meaning yet, with the command's mnemonic; no arm
  raises it. Safe: the machine stops where the block goes on. -/
  | notModelled (mnemonic : String)
deriving DecidableEq, Repr

end Sys2Proof.Machine
end

