-- ==== Sys2Proof/Machine/Ops.lean ====
section
/-! DEFINITION. The operations the commands and handlers share: the failure oracle (R66), the response (R62), the interrupts (R203, R204, R208), and the primitives of the Edge Counter and the Delay Actuator. -/

namespace Sys2Proof.Machine

/-! ### The failure oracle (R13, R66) -/

/-- The bit `draw()` answers: 1 means that this call fails. A bit the state knows already, or else a
free value (log entry 2). -/
def State.nextDraw (s : State) : Bool := s.draws.headD (Config.failDraws s.drawCount)

/-- The state once `draw()` has taken its bit. -/
def State.takeDraw (s : State) : State :=
  { s with draws := s.draws.tail, drawCount := s.drawCount + 1 }

/-! ### The response (R62) -/

/-- `respond(status, data)`. -/
def respond (status : Status) (data : Word) (s : State) : State :=
  { s with respStatus := status, respData := data }

/-! ### Interrupts: latching an event (R203, R204), entering its handler (R208)

Entry saves nothing and switches nothing; a handler returns by finishing its step, and there is
nothing to restore (R209). -/

/-- `post_flip(c)` (R203). -/
def postFlip (c : Count) (s : State) : State :=
  { s with
    faultWpOverrun := s.faultWpOverrun || s.evtFlipPending
    evtFlipPending := true
    evtFlipVal := c }

/-- `post_full()` (R203). -/
def postFull (s : State) : State :=
  { s with
    faultWpOverrun := s.faultWpOverrun || s.evtFullPending
    evtFullPending := true }

/-- `post_expiry()` (R204). -/
def postExpiry (s : State) : State := { s with dtEvtPending := true }

/-- Entry to the watch-point handler (R156, R206, R208): the value of the event it services, FLIP
before FULL, and the state with that event's latch cleared. -/
def enterWatchPoint (s : State) : Nat × State :=
  if s.evtFlipPending then (s.evtFlipVal.val, { s with evtFlipPending := false })
  else (Config.N, { s with evtFullPending := false })

/-- Entry to the expiry handler (R165, R208). -/
def enterExpiry (s : State) : State := { s with dtEvtPending := false }

/-! ### Edge Counter primitives -/

/-- The watch point a value names (R24, R101): the FULL slot for N, the FLIP slot below it. -/
inductive WatchPoint where
  /-- The dynamic slot, with its threshold. -/
  | flip (v : Count)
  /-- The fixed slot. -/
  | full
deriving DecidableEq, Repr

/-- The range check of R101 and R102: `none` for `v = 0` or `v > N`. -/
def watchPoint? (v : Nat) : Option WatchPoint :=
  if v = 0 then none
  else if h : v < 20 then some (.flip ⟨v, h⟩)
  else if v = Config.N then some .full
  else none

/-- `EC.configure(g)` (R100). -/
def ecConfigure (g : Arg) (s : State) : Status × State :=
  if s.nextDraw then (.hwFail, s.takeDraw)
  else
    (.ok,
      { s.takeDraw with
        ecConfigured := true
        ecGlitchNs := g
        ecCount := 0
        wpFlipValid := false
        wpFullValid := false
        evtFlipPending := false
        evtFullPending := false })

/-- Registering a watch point in its slot, the last part of `EC.add_wp` (R101). -/
def registerWp : WatchPoint → State → Status × State
  | .full, s =>
    if s.wpFullValid then (.invalidState, s) else (.ok, { s with wpFullValid := true })
  | .flip v, s =>
    if s.wpFlipValid ∧ s.wpFlipVal = v then (.invalidState, s)
    else if s.wpFlipValid then (.hwFail, s)
    else (.ok, { s with wpFlipValid := true, wpFlipVal := v })

/-- Emptying a watch point's slot, the last part of `EC.remove_wp` (R102). The event latch and
`wp_flip_val` keep their values. -/
def unregisterWp : WatchPoint → State → Status × State
  | .full, s =>
    if s.wpFullValid then (.ok, { s with wpFullValid := false }) else (.invalidState, s)
  | .flip v, s =>
    if s.wpFlipValid ∧ s.wpFlipVal = v then (.ok, { s with wpFlipValid := false })
    else (.invalidState, s)

/-- The checks `EC.add_wp` and `EC.remove_wp` make in one order (R101, R102): the draw, the unit
configured, the value in range; then the slot's own part. -/
def withWatchPoint (slot : WatchPoint → State → Status × State) (v : Nat) (s : State) :
    Status × State :=
  if s.nextDraw then (.hwFail, s.takeDraw)
  else if s.ecConfigured = false then (.invalidState, s.takeDraw)
  else
    match watchPoint? v with
    | none => (.invalidArg, s.takeDraw)
    | some p => slot p s.takeDraw

/-- `EC.add_wp(v)` (R101). -/
def ecAddWp (v : Nat) (s : State) : Status × State := withWatchPoint registerWp v s

/-- `EC.remove_wp(v)` (R102). -/
def ecRemoveWp (v : Nat) (s : State) : Status × State := withWatchPoint unregisterWp v s

/-- `EC.clear()` (R103). It takes no draw and raises no event. -/
def ecClear (s : State) : Status × State :=
  if s.ecConfigured then (.ok, { s with ecCount := 0 }) else (.invalidState, s)

/-! ### Delay Actuator primitives -/

/-- `DT.configure()` (R120). -/
def dtConfigure (s : State) : Status × State :=
  if s.nextDraw then (.hwFail, s.takeDraw)
  else
    (.ok,
      { s.takeDraw with
        dtConfigured := true, dtRunning := false, dtCount := 0, dtEvtPending := false })

/-- `DT.reset_and_start()` (R121), the arm: it supersedes a countdown and a latched expiry. -/
def dtResetAndStart (s : State) : Status × State :=
  if s.dtConfigured then
    (.ok, { s with dtCount := 0, dtRunning := true, dtEvtPending := false })
  else (.invalidState, s)

/-- `DT.stop()` (R122): the count and a latched expiry stay. -/
def dtStop (s : State) : Status × State :=
  if s.dtConfigured then (.ok, { s with dtRunning := false }) else (.invalidState, s)

/-! ### Putting primitives together -/

/-- Run the next primitive only if the one before answered `OK` (R136). -/
def andThen (r : Status × State) (next : State → Status × State) : Status × State :=
  if r.1 = .ok then next r.2 else r

/-- A direct command (R215): refused while the engine runs, before anything else; otherwise one
primitive, whose status is the response. -/
def directCommand (primitive : State → Status × State) (s : State) : State :=
  if s.engState = .running then respond .invalidState 0 s
  else respond (primitive s).1 0 (primitive s).2

/-- `TE.schedule(level)` (R160): record the intent and arm the timer. -/
def schedule (level : Level) (s : State) : State :=
  (dtResetAndStart
    { s with
      faultArmSupersede := s.faultArmSupersede || s.pol.isSome
      pol := some level }).2

end Sys2Proof.Machine
end

