-- ==== Sys2Proof/Machine/Operands.lean ====
section
/-! DEFINITION. The operands a command takes (R81) and the data its response carries (R82). -/

namespace Sys2Proof.Machine

/-! ### Operands -/

/-- The glitch-filter operand as the 24 bits `EC.configure` takes (R81, R100). For an operand no word
carries, the value mod 2^24 (log entry 12). -/
def glitchOperand (g : Nat) : Arg := BitVec.ofNat 24 g

/-- The range check of R137: the threshold, or `none` outside [0, N]. -/
def threshold? (t : Int) : Option Threshold :=
  if h : 0 ≤ t ∧ t ≤ 20 then some ⟨t.toNat, by omega⟩ else none

/-- A threshold that needs a FLIP watch point: strictly between 0 and N (R136, R140, R143). -/
def needsFlip (t : Threshold) : Bool := decide (0 < t.val ∧ t.val < Config.N)

/-! ### Response data -/

/-- `sat32` of R12. -/
def sat32 (x : Nat) : BitVec 32 := BitVec.ofNat 32 (min x (2 ^ 32 - 1))

/-- The data of `EC_GET_COUNT` (R82): bits 4:0 the count, the others 0. -/
def countData (c : Count) : Word := BitVec.ofNat 32 c.val

/-- The percentage of `GET_DUTY_CYCLE` (R138): `floor(threshold * 100 / N)`. -/
def percentage (t : Threshold) : Nat := t.val * 100 / Config.N

/-- The data of `GET_DUTY_CYCLE` (R82, R138): the percentage in bits 15:8, the threshold in bits 7:0. -/
def dutyData (t : Threshold) : Word :=
  (BitVec.ofNat 32 (percentage t) <<< 8) ||| BitVec.ofNat 32 t.val

/-- `freq_mHz(T)` (R184): the frequency estimate in millihertz, rounded down and saturated. -/
def freqMilliHz (t : BitVec 32) : BitVec 32 :=
  if t = 0 then BitVec.allOnes 32 else sat32 (Config.N * 500000000 / t.toNat)

/-- The time between two FULL events (R158): the difference of the clocks modulo 2^64, saturated. -/
def cycleTime (now prev : Clock) : BitVec 32 := sat32 (now - prev).toNat

end Sys2Proof.Machine
end

