-- ==== Sys2Proof/Machine/Flags.lean ====
section
/-! DEFINITION. The codes of the enumerated fields (R27, R28, R29, R83), the phase (R155) and the STATUS word (R187). -/

namespace Sys2Proof.Machine

/-- The code of a status (R83), as the 8-bit port shows it. -/
def Status.code : Status → BitVec 8
  | .ok => 0
  | .invalidArg => 1
  | .invalidState => 2
  | .hwFail => 3
  | .unknownOp => 4
  | .notValid => 5

/-- The code of `eng_state` (R27). -/
def EngState.code : EngState → BitVec 2
  | .idle => 0
  | .running => 1
  | .failed => 2

/-- The code of `last_apply_result` (R27). -/
def ApplyResult.code : ApplyResult → BitVec 3
  | .none => 0
  | .ok => 1
  | .failRemove => 2
  | .failRolledBack => 3
  | .failUnrestored => 4

/-- The code of `out` (R29). -/
def Level.code : Level → BitVec 1
  | .low => 0
  | .high => 1

/-- The code of `pol` (R28). -/
def intentCode : Option Level → BitVec 2
  | none => 0
  | some .low => 1
  | some .high => 2

/-- The states of one operating cycle (R155). -/
inductive Phase where
  /-- `WAITING_FLIP`. -/
  | waitingFlip
  /-- `WAITING_FULL`. -/
  | waitingFull
deriving DecidableEq, Repr

/-- The condition of R155 and of the `PHASE` bit (R187), computed in every engine state. -/
def pastFlip (s : State) : Bool := s.wpFlipValid && decide (s.wpFlipVal ≤ s.ecCount)

/-- The phase, defined while the engine runs (R155). -/
def phase? (s : State) : Option Phase :=
  if s.engState = .running then some (if pastFlip s then .waitingFull else .waitingFlip)
  else none

/-- `FLIP_VAL` of R187: the registered FLIP threshold, or 0. -/
def flipValField (s : State) : BitVec 5 :=
  if s.wpFlipValid then BitVec.ofNat 5 s.wpFlipVal.val else 0

/-- `PEND_VAL` of R187: the pending threshold, or 0. -/
def pendValField (s : State) : BitVec 5 :=
  if s.pendingValid then BitVec.ofNat 5 s.pendingThreshold.val else 0

/-- The STATUS word (R187), its fields from bit 31 down. -/
def statusWord (s : State) : Word :=
  BitVec.ofBool s.dtConfigured                    -- 31 DT_CFG
    ++ BitVec.ofBool s.ecConfigured               -- 30 EC_CFG
    ++ BitVec.ofBool s.faultFlipUnrestored        -- 29 F_UNRESTORED
    ++ BitVec.ofBool s.faultArmSupersede          -- 28 F_SUPERSEDE
    ++ BitVec.ofBool s.faultWpOverrun             -- 27 F_OVERRUN
    ++ s.lastApplyResult.code                     -- 26:24 APPLY_RES
    ++ BitVec.ofBool s.applyEventPending          -- 23 APPLY_EVT
    ++ pendValField s                             -- 22:18 PEND_VAL
    ++ BitVec.ofBool s.pendingValid               -- 17 PEND_V
    ++ BitVec.ofBool s.evtFullPending             -- 16 EVT_FULL
    ++ BitVec.ofBool s.evtFlipPending             -- 15 EVT_FLIP
    ++ BitVec.ofBool s.wpFullValid                -- 14 FULL_V
    ++ flipValField s                             -- 13:9 FLIP_VAL
    ++ BitVec.ofBool s.wpFlipValid                -- 8 FLIP_V
    ++ BitVec.ofBool s.dtEvtPending               -- 7 DT_EVT
    ++ BitVec.ofBool s.dtRunning                  -- 6 DT_RUN
    ++ intentCode s.pol                           -- 5:4 POL
    ++ s.out.code                                 -- 3 OUT
    ++ BitVec.ofBool (pastFlip s)                 -- 2 PHASE
    ++ s.engState.code                            -- 1:0 ENG

end Sys2Proof.Machine
end

