-- ==== Sys2Proof/Machine/DelayActuator.lean ====
section
/-! DEFINITION. The direct commands of the Delay Actuator (R123 to R125). -/

namespace Sys2Proof.Machine

/-- `DT_CONFIGURE` (R123). -/
def execDtConfigure (s : State) : Host.Outcome State Fault Refusal :=
  .next (directCommand dtConfigure s)

/-- `DT_RESET_AND_START` (R124). -/
def execDtResetAndStart (s : State) : Host.Outcome State Fault Refusal :=
  .next (directCommand dtResetAndStart s)

/-- `DT_STOP` (R125). -/
def execDtStop (s : State) : Host.Outcome State Fault Refusal :=
  .next (directCommand dtStop s)

end Sys2Proof.Machine
end

