-- ==== Sys2Proof/Machine/DutyCycle.lean ====
section
/-! DEFINITION. The Duty-Cycle Controller: starting the engine (R136), the request and its read (R137, R138), and the application of a request at the cycle boundary (R139 to R141). -/

namespace Sys2Proof.Machine

/-! ### Starting the engine (R136) -/

/-- The third set-up call: the FLIP watch point of the threshold in force, if it needs one. -/
def addActiveFlip (s : State) : Status × State :=
  if needsFlip s.activeThreshold then ecAddWp s.activeThreshold.val s else (.ok, s)

/-- The set-up calls of `ENG_START`, stopping at the first that fails: the counter, the FULL watch
point, the FLIP watch point if the threshold needs one, the timer. -/
def engSetup (s : State) : Status × State :=
  andThen
    (andThen (andThen (ecConfigure Config.glitchFilterNs s) (ecAddWp Config.N)) addActiveFlip)
    dtConfigure

/-- What a failed set-up leaves: both peripherals unconfigured, the engine FAILED. -/
def engFail (s : State) : State :=
  { s with
    ecConfigured := false, ecCount := 0
    wpFlipValid := false, wpFullValid := false
    evtFlipPending := false, evtFullPending := false
    dtConfigured := false, dtRunning := false, dtCount := 0, dtEvtPending := false
    engState := .failed }

/-- What a successful set-up leaves: fresh statistics, nothing pending, the engine RUNNING. The values
whose valid bits are cleared stay (DEDUCED, log entry 19). -/
def engRun (s : State) : State :=
  { s with
    triggerCount := 0, cycleCount := 0
    lastCycleTimeUs := 0, lastCycleValid := false, prevFullValid := false
    pol := none
    pendingValid := false, lastApplyResult := .none, applyEventPending := false
    engState := .running }

/-- `ENG_START` (R136). -/
def execEngStart (s : State) : Host.Outcome State Fault Refusal :=
  .next
    (if s.engState ≠ .idle then respond .invalidState 0 s
    else if (engSetup s).1 = .ok then respond .ok 0 (engRun (engSetup s).2)
    else respond .hwFail 0 (engFail (engSetup s).2))

/-! ### The request entry point and the read of the setting -/

/-- A legal request (R137): stored directly while the engine does not run, otherwise recorded, or
withdrawn where it asks for the active value. -/
def request (t : Threshold) (s : State) : State :=
  if s.engState ≠ .running then { s with activeThreshold := t }
  else if t = s.activeThreshold then { s with pendingValid := false }
  else { s with pendingThreshold := t, pendingValid := true }

/-- `SET_DUTY_CYCLE t` (R137). -/
def execSetDutyCycle (t : Int) (s : State) : Host.Outcome State Fault Refusal :=
  .next
    (match threshold? t with
    | none => respond .invalidArg 0 s
    | some v => respond .ok 0 (request v s))

/-- `GET_DUTY_CYCLE` (R138). -/
def execGetDutyCycle (s : State) : Host.Outcome State Fault Refusal :=
  .next (respond .ok (dutyData s.activeThreshold) s)

/-! ### Applying a pending request -/

/-- `DC.rollback(removed, old)` (R141). -/
def dcRollback (removed : Bool) (old : Count) (s : State) : ApplyResult × State :=
  if removed = false then (.failRolledBack, s)
  else if (ecAddWp old.val s).1 = .ok then (.failRolledBack, (ecAddWp old.val s).2)
  else (.failUnrestored, { (ecAddWp old.val s).2 with faultFlipUnrestored := true })

/-- The addition half of `DC.swap` (R140), with what the removal half left behind. -/
def dcAddHalf (p : Threshold) (removed : Bool) (old : Count) (s : State) : ApplyResult × State :=
  if needsFlip p then
    if (ecAddWp p.val s).1 = .ok then (.ok, (ecAddWp p.val s).2)
    else dcRollback removed old (ecAddWp p.val s).2
  else (.ok, s)

/-- `DC.swap(p)` (R140). -/
def dcSwap (p : Threshold) (s : State) : ApplyResult × State :=
  if needsFlip s.activeThreshold ∧ s.wpFlipValid then
    if (ecRemoveWp s.wpFlipVal.val s).1 = .ok then
      dcAddHalf p true s.wpFlipVal (ecRemoveWp s.wpFlipVal.val s).2
    else (.failRemove, (ecRemoveWp s.wpFlipVal.val s).2)
  else dcAddHalf p false s.wpFlipVal s

/-- The end of `DC.apply_pending` (R139): the request is committed if the swap succeeded, cleared in
any case, and the outcome is left for the host. -/
def finishApply (p : Threshold) (r : ApplyResult × State) : State :=
  { r.2 with
    activeThreshold := if r.1 = .ok then p else r.2.activeThreshold
    pendingValid := false
    lastApplyResult := r.1
    applyEventPending := true }

/-- `DC.apply_pending()` (R139). -/
def dcApplyPending (s : State) : State :=
  if s.pendingValid = false then s
  else if s.pendingThreshold = s.activeThreshold then { s with pendingValid := false }
  else finishApply s.pendingThreshold (dcSwap s.pendingThreshold s)

end Sys2Proof.Machine
end

