-- ==== Sys2Proof/Machine/EdgeCounter.lean ====
section
/-! DEFINITION. The direct commands of the Edge Counter (R105 to R109). -/

namespace Sys2Proof.Machine

/-- `EC_CONFIGURE g` (R105). -/
def execEcConfigure (g : Nat) (s : State) : Host.Outcome State Fault Refusal :=
  .next (directCommand (ecConfigure (glitchOperand g)) s)

/-- `EC_ADD_WP v` (R106). -/
def execEcAddWp (v : Nat) (s : State) : Host.Outcome State Fault Refusal :=
  .next (directCommand (ecAddWp v) s)

/-- `EC_REMOVE_WP v` (R107). -/
def execEcRemoveWp (v : Nat) (s : State) : Host.Outcome State Fault Refusal :=
  .next (directCommand (ecRemoveWp v) s)

/-- `EC_CLEAR` (R108). -/
def execEcClear (s : State) : Host.Outcome State Fault Refusal :=
  .next (directCommand ecClear s)

/-- `EC_GET_COUNT` (R104, R109): allowed in every engine state. -/
def execEcGetCount (s : State) : Host.Outcome State Fault Refusal :=
  .next (if s.ecConfigured then respond .ok (countData s.ecCount) s else respond .invalidState 0 s)

end Sys2Proof.Machine
end

