-- ==== Sys2Proof/Machine/Inputs.lean ====
section
/-! DEFINITION. The steps of the environment that are not commands: `RISE`, `FALL` (R110, R111), `TICK` (R128), `RESET` (R230); and the steps that items of a trace stand for (R14; the traces are in Machine/Trace.lean). -/

namespace Sys2Proof.Machine

/-- The count written by a counting step. -/
def setCount (c : Count) (s : State) : State := { s with ecCount := c }

/-- The counting part of `RISE` below N (R110): the new count, and the FLIP event where it is reached. -/
def reachCount (c : Count) (s : State) : State :=
  if s.wpFlipValid ∧ s.wpFlipVal = c then postFlip c (setCount c s) else setCount c s

/-- The counting part of `RISE` at N (R110): back to 0, and the FULL event if it is registered. -/
def wrapCount (s : State) : State :=
  if s.wpFullValid then postFull (setCount 0 s) else setCount 0 s

/-- `RISE` (R110). It does not depend on the engine's state. -/
def rise (s : State) : State :=
  if s.ecConfigured then
    if h : s.ecCount.val + 1 < 20 then reachCount ⟨s.ecCount.val + 1, h⟩ s else wrapCount s
  else s

/-- `FALL` (R111): no state changes. -/
def fall (s : State) : State := s

/-- The timer's part of `TICK` (R128): on reaching the alarm it stops itself and latches the expiry. -/
def countTick (s : State) : State :=
  if s.dtCount + 1 = BitVec.ofNat 32 Config.dtAlarm then
    postExpiry { s with dtCount := s.dtCount + 1, dtRunning := false }
  else { s with dtCount := s.dtCount + 1 }

/-- `now <- (now + 1) mod 2^64` (R128). -/
def advanceClock (s : State) : State := { s with now := s.now + 1 }

/-- `TICK` (R128): the clock, and the timer if it runs. -/
def tick (s : State) : State :=
  if s.dtRunning then countTick (advanceClock s) else advanceClock s

/-- `RESET` (R230): every field to its reset value, but for `now`, which it does not touch, and the
environment's own fields, which are not the block's (log entry 8). -/
def resetStep (s : State) : State :=
  { State.reset with
    now := s.now
    inputs := s.inputs
    draws := s.draws
    drawCount := s.drawCount
    deferrals := s.deferrals }

/-! ### The steps that a trace item stands for (R14) -/

/-- `T n`. -/
def ticks (n : Nat) : List Input := List.replicate n .tick

/-- `E+ xk every d`. -/
def risesEvery : Nat → Nat → List Input
  | 0, _ => []
  | k + 1, d => ticks d ++ .rise :: risesEvery k d

/-- `C MNEMONIC [arg]`. -/
def commandStep (i : Instr) : Input := .cmd (encode i)

end Sys2Proof.Machine
end

