-- ==== Sys2Proof/Machine/Schedule.lean ====
section
/-! DEFINITION. Which step comes next: the agents of R8, the enabledness and priority of the handlers (R206, R207), the reference schedule and a lagging one (R9, R207). -/

namespace Sys2Proof.Machine

/-- The label of a step (R8). -/
inductive Label where
  /-- A step of the environment. -/
  | input (e : Input)
  /-- `WP_SERVICE`. -/
  | wpService
  /-- `DT_SERVICE`. -/
  | dtService
deriving DecidableEq, Repr

/-- The context a step runs in (R8, R213). -/
inductive Context where
  /-- The input and the time base. -/
  | hardware
  /-- The two handlers. -/
  | interrupt
  /-- The host's commands. -/
  | task
deriving DecidableEq, Repr

/-- The context of a step is fixed by its kind (R213); R8 gives `RESET` none. -/
def Label.context? : Label → Option Context
  | .input .rise => some .hardware
  | .input .fall => some .hardware
  | .input .tick => some .hardware
  | .input (.cmd _) => some .task
  | .input .reset => none
  | .wpService => some .interrupt
  | .dtService => some .interrupt

/-- `DT_SERVICE` is enabled (R165, R207). -/
def dtEnabled (s : State) : Bool := decide (s.engState = .running) && s.dtEvtPending

/-- `WP_SERVICE` is enabled (R156, R207). -/
def wpEnabled (s : State) : Bool :=
  decide (s.engState = .running) && (s.evtFlipPending || s.evtFullPending)

/-- Some handler step is enabled. -/
def handlerEnabled (s : State) : Bool := dtEnabled s || wpEnabled s

/-- The enabled handler step of the highest priority: `DT_SERVICE` before `WP_SERVICE` (R206), also in a
schedule with lag (DEDUCED, log entry 14). -/
def dueHandler? (s : State) : Option Label :=
  if dtEnabled s then some .dtService else if wpEnabled s then some .wpService else none

/-- Whether the handler that is due lags this time (R207; log entry 3). -/
def handlerLags (s : State) : Bool := s.deferrals.headD false

/-- The step that comes next: the due handler unless it lags, otherwise the environment's next step,
if it takes one. -/
def nextLabel? (s : State) : Option Label :=
  match dueHandler? s with
  | some h => if handlerLags s then s.inputs.head?.map .input else some h
  | none => s.inputs.head?.map .input

/-- The schedule's bit is used up whenever a handler was enabled (log entry 3). -/
def spendDeferral (s : State) : State :=
  if handlerEnabled s then { s with deferrals := s.deferrals.tail } else s

/-- A step of the environment is taken from its list; a handler step takes nothing from it. -/
def consume : Label → State → State
  | .input _, s => { s with inputs := s.inputs.tail }
  | .wpService, s => s
  | .dtService, s => s

end Sys2Proof.Machine
end

