-- ==== Sys2Proof/Machine/Statistics.lean ====
section
/-! DEFINITION. The reads of the statistics, the frequency, the notification and the status (R180 to R187). -/

namespace Sys2Proof.Machine

/-- `GET_TRIGGER_COUNT` (R180). -/
def execGetTriggerCount (s : State) : Host.Outcome State Fault Refusal :=
  .next (respond .ok s.triggerCount s)

/-- `GET_CYCLE_COUNT` (R181). -/
def execGetCycleCount (s : State) : Host.Outcome State Fault Refusal :=
  .next (respond .ok s.cycleCount s)

/-- `GET_LAST_CYCLE_TIME` (R182). -/
def execGetLastCycleTime (s : State) : Host.Outcome State Fault Refusal :=
  .next (respond .ok s.lastCycleTimeUs s)

/-- `GET_FREQUENCY` (R183). -/
def execGetFrequency (s : State) : Host.Outcome State Fault Refusal :=
  .next
    (if s.lastCycleValid then respond .ok (freqMilliHz s.lastCycleTimeUs) s
    else respond .notValid 0 s)

/-- `TAKE_APPLY_RESULT` (R185): the one read that clears what it reads (R65). -/
def execTakeApplyResult (s : State) : Host.Outcome State Fault Refusal :=
  .next
    (if s.applyEventPending then
      respond .ok (s.lastApplyResult.code.setWidth 32)
        { s with applyEventPending := false, lastApplyResult := .none }
    else respond .notValid 0 s)

/-- `GET_STATUS` (R186). -/
def execGetStatus (s : State) : Host.Outcome State Fault Refusal :=
  .next (respond .ok (statusWord s) s)

end Sys2Proof.Machine
end

