-- ==== Sys2Proof/Machine/TimingEngine.lean ====
section
/-! DEFINITION. The Timing Engine: the watch-point handler (R156 to R160) and the expiry handler (R165). -/

namespace Sys2Proof.Machine

/-- The time-keeping part of the FULL branch (R158): the cycle time, skipped for the first cycle, the
timestamp and the completed-cycle counter. -/
def recordCycle (s : State) : State :=
  { s with
    lastCycleTimeUs := if s.prevFullValid then cycleTime s.now s.prevFullTs else s.lastCycleTimeUs
    lastCycleValid := s.lastCycleValid || s.prevFullValid
    prevFullTs := s.now
    prevFullValid := true
    cycleCount := s.cycleCount + 1 }

/-- The level the FULL branch schedules (R158). -/
def boundaryLevel (s : State) : Level := if s.activeThreshold = 0 then .low else .high

/-- The end of the FULL branch (R158): the level of the next cycle, from the threshold as it is now. -/
def scheduleBoundary (s : State) : State := schedule (boundaryLevel s) s

/-- The FULL branch of `WP_SERVICE` (R158). The status of the clear is not looked at (DEDUCED, log
entry 13). -/
def fullBranch (s : State) : State :=
  scheduleBoundary (dcApplyPending (ecClear (recordCycle s)).2)

/-- The FLIP branch of `WP_SERVICE` (R157). -/
def flipBranch (s : State) : State := schedule .low s

/-- `trigger_count <- (trigger_count + 1) mod 2^32` (R156). -/
def countTrigger (s : State) : State := { s with triggerCount := s.triggerCount + 1 }

/-- The branches of `WP_SERVICE` for an event of value `v` (R156, R159). -/
def wpBranch (v : Nat) (s : State) : State :=
  if 0 < v ∧ v < Config.N ∧ v = s.activeThreshold.val then flipBranch s
  else if v = Config.N then fullBranch s
  else s

/-- `WP_SERVICE` (R156), where it is enabled. -/
def wpService (s : State) : State :=
  wpBranch (enterWatchPoint s).1 (countTrigger (enterWatchPoint s).2)

/-- The pin write of the expiry handler (R165): the intent, if there is one, is consumed. -/
def writePin (s : State) : State :=
  match s.pol with
  | some level => { s with out := level, pol := none }
  | none => s

/-- `DT_SERVICE` (R165), where it is enabled. -/
def dtService (s : State) : State := writePin (dtStop (enterExpiry s)).2

end Sys2Proof.Machine
end

