-- ==== Sys2Proof/Machine/Dispatch.lean ====
section
/-! DEFINITION. The meaning of each command (R84), one arm per constructor. -/

namespace Sys2Proof.Machine

/-- The meaning of a command: the `CMD` step of R61 once its word is decoded. -/
def exec (i : Instr) (s : State) : Host.Outcome State Fault Refusal :=
  match i with
  | .ecConfigure g => Sys2Proof.Machine.execEcConfigure g s
  | .ecAddWp v => Sys2Proof.Machine.execEcAddWp v s
  | .ecRemoveWp v => Sys2Proof.Machine.execEcRemoveWp v s
  | .ecClear => Sys2Proof.Machine.execEcClear s
  | .ecGetCount => Sys2Proof.Machine.execEcGetCount s
  | .dtConfigure => Sys2Proof.Machine.execDtConfigure s
  | .dtResetAndStart => Sys2Proof.Machine.execDtResetAndStart s
  | .dtStop => Sys2Proof.Machine.execDtStop s
  | .engStart => Sys2Proof.Machine.execEngStart s
  | .setDutyCycle t => Sys2Proof.Machine.execSetDutyCycle t s
  | .getDutyCycle => Sys2Proof.Machine.execGetDutyCycle s
  | .getTriggerCount => Sys2Proof.Machine.execGetTriggerCount s
  | .getCycleCount => Sys2Proof.Machine.execGetCycleCount s
  | .getLastCycleTime => Sys2Proof.Machine.execGetLastCycleTime s
  | .getFrequency => Sys2Proof.Machine.execGetFrequency s
  | .takeApplyResult => Sys2Proof.Machine.execTakeApplyResult s
  | .getStatus => Sys2Proof.Machine.execGetStatus s

end Sys2Proof.Machine
end

