-- ==== Sys2Proof/Machine/Command.lean ====
section
/-! DEFINITION. The `CMD` step of a word (R61, R85) and the step of a label (R8). -/

namespace Sys2Proof.Machine

/-- `CMD(w)` (R61): the command the word selects, or the answer `ERR_UNKNOWN_OP` with no state change
where it selects none (R85). -/
def command (w : Word) (s : State) : Host.Outcome State Fault Refusal :=
  match decode w with
  | .ok i => exec i s
  | .error _ => .next (respond .unknownOp 0 s)

/-- The step of a label (R8), its place in the schedule already taken: one atomic transition (R67; log
entry 16). -/
def fire (l : Label) (s : State) : Host.Outcome State Fault Refusal :=
  match l with
  | .input .rise => .next (rise s)
  | .input .fall => .next (fall s)
  | .input .tick => .next (tick s)
  | .input (.cmd w) => command w s
  | .input .reset => .next (resetStep s)
  | .wpService => .next (wpService s)
  | .dtService => .next (dtService s)

/-- `s` with `CMD(w)` as the environment's very next step. Where a handler is enabled, the schedule
lets the environment go first this once (log entry 1). -/
def presentCommand (w : Word) (s : State) : State :=
  { s with
    inputs := .cmd w :: s.inputs
    deferrals := if handlerEnabled s then true :: s.deferrals else s.deferrals }

end Sys2Proof.Machine
end

