-- ==== Sys2Proof/Machine/Step.lean ====
section
/-! DEFINITION. One step of the block, and a command word placed where the next step takes it. -/

namespace Sys2Proof.Machine

/-- One step (R8, R67): the label the schedule picks, or nothing where the environment takes no step
and no handler is to run (log entry 7). -/
def step (s : State) : Host.Outcome State Fault Refusal :=
  match nextLabel? s with
  | some l => fire l (consume l (spendDeferral s))
  | none => .next (spendDeferral s)

/-- `s` with the word `w`, numbered as spec/opcode_table.json numbers it, as the very next step. -/
def State.withFetchWord (s : State) (nbits w : Nat) : State :=
  presentCommand (tableWord nbits w) s

end Sys2Proof.Machine
end

