-- ==== Sys2Proof/Safety.lean ====
section
/-! DEFINITION. What counts as a safe run: the invariants of R35, the envelope of R240, and the terms the statements use. -/

namespace Sys2Proof.Machine

/-- The ten invariants of R35. Those that the types of State already carry (I1, the first half of I3,
I8) stand here too, so that the list is the spec's. -/
structure Invariants (s : State) : Prop where
  /-- I1. -/
  countInRange : s.ecCount.val ≤ Config.N - 1
  /-- I2. -/
  flipInRange : s.wpFlipValid = true → 0 < s.wpFlipVal.val ∧ s.wpFlipVal.val < Config.N
  /-- I3, the active threshold. -/
  activeInRange : s.activeThreshold.val ≤ Config.N
  /-- I3, the pending threshold. -/
  pendingInRange : s.pendingValid = true → s.pendingThreshold.val ≤ Config.N
  /-- I4. -/
  pendingDiffers :
    s.pendingValid = true → s.engState = .running ∧ s.pendingThreshold ≠ s.activeThreshold
  /-- I5. -/
  runningConfigured :
    s.engState = .running →
      s.ecConfigured = true ∧ s.dtConfigured = true ∧ s.wpFullValid = true
  /-- I6. -/
  flipIsActive :
    s.engState = .running → s.faultFlipUnrestored = false →
      (s.wpFlipValid = true ↔ 0 < s.activeThreshold.val ∧ s.activeThreshold.val < Config.N) ∧
      (s.wpFlipValid = true → s.wpFlipVal.val = s.activeThreshold.val)
  /-- I7, a running timer. -/
  timerBelowAlarm :
    s.dtRunning = true → s.dtCount.toNat < Config.dtAlarm ∧ s.dtConfigured = true
  /-- I7, a latched expiry. -/
  expiryStopped : s.dtEvtPending = true → s.dtRunning = false
  /-- I8. -/
  codesInRange :
    s.engState.code ≠ 3 ∧ intentCode s.pol ≠ 3 ∧ s.lastApplyResult.code.toNat ≤ 4
  /-- I9. -/
  eventHasResult : s.applyEventPending = true → s.lastApplyResult ≠ .none
  /-- I10. -/
  cycleTimeHasTimestamp : s.lastCycleValid = true → s.prevFullValid = true

/-- While the engine runs, an intent is set exactly as long as the arm that is to write it is
outstanding: the timer counts, or its expiry is latched. It is what keeps R35's last paragraph ("never
left set across more than one delay-timer firing"). -/
def IntentArmed (s : State) : Prop :=
  s.engState = .running → (s.pol ≠ none ↔ s.dtRunning = true ∨ s.dtEvtPending = true)

/-- The FLIP point the running engine has registered is the one of the active threshold, also after a
failed restore: what a later application relies on (R140). -/
def FlipFollowsActive (s : State) : Prop :=
  s.engState = .running → s.wpFlipValid = true →
    s.wpFlipVal.val = s.activeThreshold.val

/-- No handler step is enabled: while the engine runs, no event latch is set (R35, last paragraph). -/
def Quiet (s : State) : Prop := handlerEnabled s = false

/-- The reference schedule of R9. -/
def Eager (s : State) : Prop := s.deferrals = []

/-- No departure from the envelope is recorded (R212). -/
def NoFaults (s : State) : Prop :=
  s.faultWpOverrun = false ∧ s.faultArmSupersede = false ∧ s.faultFlipUnrestored = false

/-- How many event latches are set. -/
def latchesSet (s : State) : Nat :=
  s.dtEvtPending.toNat + s.evtFlipPending.toNat + s.evtFullPending.toNat

/-- The hazard rule R240 on what is still to come: every rising edge comes more than DELAY_US after
the one before it, the last one so far having been `d` microseconds ago. -/
def edgesSpaced : Nat → List Input → Prop
  | _, [] => True
  | d, .rise :: rest => Config.dtAlarm < d ∧ edgesSpaced 0 rest
  | d, .tick :: rest => edgesSpaced (d + 1) rest
  | d, .fall :: rest => edgesSpaced d rest
  | d, .cmd _ :: rest => edgesSpaced d rest
  | d, .reset :: rest => edgesSpaced d rest

/-- The `k`-th draw to come, counted from 0, whether it is known or not (R66; log entry 2). -/
def drawAt (s : State) (k : Nat) : Bool := s.draws.getD k (Config.failDraws (s.drawCount + k))

/-- How many draws the application of a pending request makes when none fails (R139, R140): one to
remove a registered FLIP point, one to add that of a threshold strictly inside (0, N). -/
def swapDraws (s : State) : Nat :=
  (if s.wpFlipValid = true then 1 else 0) +
    (if 0 < s.pendingThreshold.val ∧ s.pendingThreshold.val < 20 then 1 else 0)

/-- Everything the FULL branch writes besides what the application of a request does (R156, R158,
R160), for the threshold `t` in force after it: the latch, the counters, the cycle time and the
timestamp, the count, the intent and the arm. -/
def afterFull (t : Threshold) (s : State) : State :=
  { s with
    evtFullPending := false
    triggerCount := s.triggerCount + 1
    lastCycleTimeUs :=
      if s.prevFullValid = true then
        BitVec.ofNat 32 (min (s.now - s.prevFullTs).toNat (2 ^ 32 - 1))
      else s.lastCycleTimeUs
    lastCycleValid := s.lastCycleValid || s.prevFullValid
    prevFullTs := s.now
    prevFullValid := true
    cycleCount := s.cycleCount + 1
    ecCount := 0
    faultArmSupersede := s.faultArmSupersede || s.pol.isSome
    pol := some (if t.val = 0 then .low else .high)
    dtRunning := true
    dtCount := 0
    dtEvtPending := false }

/-- A state inside the envelope of R240, in the reference schedule, the last rising edge having been
`d` microseconds ago: what keeps an intent from being superseded. -/
structure SpacedState (d : Nat) (s : State) : Prop where
  /-- R35. -/
  invariants : Invariants s
  /-- An intent is set exactly while its arm is outstanding. -/
  intentArmed : IntentArmed s
  /-- R9. -/
  eager : Eager s
  /-- R9: a running engine has at most one handler due. -/
  oneLatch : s.engState = .running → latchesSet s ≤ 1
  /-- R240. -/
  spaced : edgesSpaced d s.inputs
  /-- The countdown of a running engine began at an edge. -/
  timerSinceEdge : s.engState = .running → s.dtRunning = true → d ≤ s.dtCount.toNat
  /-- A watch-point event of a running engine is serviced at its edge, with no countdown going on. -/
  eventAtEdge :
    s.engState = .running → s.evtFlipPending = true ∨ s.evtFullPending = true →
      d = 0 ∧ s.dtRunning = false
  /-- R160: nothing superseded so far. -/
  unsuperseded : s.faultArmSupersede = false

/-- `k` steps lead from `s` to `t`. -/
def RunsTo (k : Nat) (s t : State) : Prop := Host.Core.run core k s = .next t

/-- The step is the command `i`, presented as some word that decodes to it. -/
def Label.runs (l : Label) (i : Instr) : Prop := ∃ w, l = .input (.cmd w) ∧ decode w = .ok i

/-- The step is `EC_CONFIGURE`. -/
def Label.configuresCounter (l : Label) : Prop := ∃ g, l.runs (.ecConfigure g)

/-- The step adds or removes the watch point `v` by a direct command. -/
def Label.movesWatchPoint (l : Label) (v : Nat) : Prop :=
  l.runs (.ecAddWp v) ∨ l.runs (.ecRemoveWp v)

end Sys2Proof.Machine
end

