-- ==== Sys2Proof/Certificates/Slice0/Obligations.lean ====
section
/-! DEFINITION. The statements for the provers: what the rules of spec/ say the block does. -/

open Sys2Proof Sys2Proof.Machine

/-! ### The command port and the encoding -/

/-- R61: a `CMD(w)` step runs the command the word selects, on the state as it is but for the
environment's list and the schedule. The environment's list is the model's choice (log entry 1), and so
is the second clause, that a lag bit at the head of `deferrals` lets the command go before a due handler
and is used up (log entry 3). -/
def Obligations.StepRunsThePresentedCommand : Prop :=
  ∀ (s : State) (w : Word) (rest : List Input) (i : Instr),
    s.inputs = .cmd w :: rest → decode w = .ok i →
      (handlerEnabled s = false → step s = exec i { s with inputs := rest }) ∧
      (∀ later, handlerEnabled s = true → s.deferrals = true :: later →
        step s = exec i { s with inputs := rest, deferrals := later })

/-- The model's own (log entry 1): a word placed by `withFetchWord` is the very next step, and it runs
on the state it was placed in. -/
def Obligations.PlacedWordRunsNext : Prop :=
  ∀ (s : State) (w : Nat), step (s.withFetchWord 32 w) = command (BitVec.ofNat 32 w) s

/-- R85: the words that select no row of R84, by their fields; each is answered `ERR_UNKNOWN_OP` and
changes nothing else: no fault flag, no statistic, no draw. -/
def Obligations.IllegalWordAnswersUnknownOp : Prop :=
  ∀ w : Word,
    ((∀ row ∈ opcodeTable, row.selectedBy w = false) ↔
      (opField w ∉ [0x10, 0x11, 0x12, 0x13, 0x14, 0x20, 0x21, 0x22, 0x30, 0x31, 0x32, 0x40, 0x41,
          0x42, 0x43, 0x44, 0x45] ∨
        (opField w ∈ [0x13, 0x14, 0x20, 0x21, 0x22, 0x30, 0x32, 0x40, 0x41, 0x42, 0x43, 0x44, 0x45] ∧
          argField w ≠ 0))) ∧
    ((∀ row ∈ opcodeTable, row.selectedBy w = false) →
      ∀ s : State, nextLabel? s = some (.input (.cmd w)) →
        step s =
          .next
            { consume (.input (.cmd w)) (spendDeferral s) with
              respStatus := .unknownOp, respData := 0 })

/-- R80, R81, R84, R94: no operand and no command is lost by encoding and decoding. -/
def Obligations.DecodeOfEncode : Prop :=
  ∀ i : Instr, i.wellFormed = true → decode (encode i) = .ok i

/-- R80, R86: a word that selects a command is that command's only encoding, and its operand fits. -/
def Obligations.EncodeOfDecode : Prop :=
  ∀ (w : Word) (i : Instr), decode w = .ok i → i.wellFormed = true ∧ encode i = w

/-- R84: the decoder's command for a word is that of the one row the word selects. -/
def Obligations.DecoderFollowsOpcodeTable : Prop :=
  (∀ (w : Word) (i : Instr), decode w = .ok i →
    ∃ row ∈ opcodeTable, row.selectedBy w = true ∧ row.mnemonic = i.mnemonic) ∧
  (∀ (w : Word), ∀ row ∈ opcodeTable, row.selectedBy w = true →
    (∃ i, decode w = .ok i ∧ i.mnemonic = row.mnemonic) ∧
    ∀ other ∈ opcodeTable, other.selectedBy w = true → other = row)

/-- R94's example words, and one word of each other family, as R84's fields spell them. -/
def Obligations.ExampleWordsDecode : Prop :=
  decode 0x3100000A = .ok (.setDutyCycle 10) ∧
  decode 0x31FFFFFF = .ok (.setDutyCycle (-1)) ∧
  decode 0x11000014 = .ok (.ecAddWp 20) ∧
  decode 0x30000000 = .ok .engStart ∧
  decode 0x100003E8 = .ok (.ecConfigure 1000) ∧
  decode 0x20000000 = .ok .dtConfigure ∧
  decode 0x43000000 = .ok .getFrequency

/-- R94, R95. A mnemonic of R84 and a value are accepted only as the well-formed command of that name and
operand, and their word is its encoding and decodes to it; every well-formed command is accepted so; the
alias is the same word; a percentage that is a multiple of 5 is the threshold `p * N / 100` and any other
is refused; an operand outside R94's range is refused; there are no other names. -/
def Obligations.AssembledWordDecodes : Prop :=
  let names :=
    ["EC_CONFIGURE", "EC_ADD_WP", "EC_REMOVE_WP", "EC_CLEAR", "EC_GET_COUNT", "DT_CONFIGURE",
      "DT_RESET_AND_START", "DT_STOP", "ENG_START", "SET_DUTY_CYCLE", "GET_DUTY_CYCLE",
      "GET_TRIGGER_COUNT", "GET_CYCLE_COUNT", "GET_LAST_CYCLE_TIME", "GET_FREQUENCY",
      "TAKE_APPLY_RESULT", "GET_STATUS"]
  (∀ m ∈ names, ∀ (v : Option Int) (w : Word), assemble m v = some w →
    ∃ i : Instr, i.mnemonic = m ∧ i.value? = v ∧ i.wellFormed = true ∧ w = encode i ∧
      decode w = .ok i) ∧
  (∀ i : Instr, i.wellFormed = true →
    i.mnemonic ∈ names ∧ assemble i.mnemonic i.value? = some (encode i)) ∧
  (∀ v, assemble "REQUEST_DUTY_CYCLE" v = assemble "SET_DUTY_CYCLE" v) ∧
  (∀ p : Int, assemble "SET_DUTY_PERCENT" (some p) =
    if 0 ≤ p ∧ p ≤ 100 ∧ p % 5 = 0 then some (encode (.setDutyCycle (p * 20 / 100))) else none) ∧
  (∀ t : Int, t < -(2 ^ 23) ∨ 2 ^ 23 ≤ t → assemble "SET_DUTY_CYCLE" (some t) = none) ∧
  (∀ v : Int, v < 0 ∨ 2 ^ 24 ≤ v →
    ∀ m ∈ ["EC_CONFIGURE", "EC_ADD_WP", "EC_REMOVE_WP"], assemble m (some v) = none) ∧
  ∀ m : String, m ∉ names → m ≠ "REQUEST_DUTY_CYCLE" → m ≠ "SET_DUTY_PERCENT" →
    ∀ v, assemble m v = none

/-! ### Edge Counter -/

/-- R100, R105: the encoding and the operand, the refusal, the drawn failure and the effect. -/
def Obligations.EcConfigureFollowsItsRule : Prop :=
  (∀ a : Arg, decode (0x10#8 ++ a) = .ok (.ecConfigure a.toNat)) ∧
  ∀ (s : State) (g : Nat), g < 2 ^ 24 →
    (s.engState = .running →
      exec (.ecConfigure g) s = .next { s with respStatus := .invalidState, respData := 0 }) ∧
    (s.engState ≠ .running → s.nextDraw = true →
      exec (.ecConfigure g) s =
        .next
          { s with
            draws := s.draws.tail, drawCount := s.drawCount + 1
            respStatus := .hwFail, respData := 0 }) ∧
    (s.engState ≠ .running → s.nextDraw = false →
      exec (.ecConfigure g) s =
        .next
          { s with
            draws := s.draws.tail, drawCount := s.drawCount + 1
            ecConfigured := true, ecGlitchNs := BitVec.ofNat 24 g, ecCount := 0
            wpFlipValid := false, wpFullValid := false
            evtFlipPending := false, evtFullPending := false
            respStatus := .ok, respData := 0 })

/-- R101, R106: the two registrations that succeed, and each refusal, in the rule's order. -/
def Obligations.EcAddWpFollowsItsRule : Prop :=
  (∀ a : Arg, decode (0x11#8 ++ a) = .ok (.ecAddWp a.toNat)) ∧
  ∀ s : State,
    (∀ v : Nat, s.engState = .running →
      exec (.ecAddWp v) s = .next { s with respStatus := .invalidState, respData := 0 }) ∧
    (s.engState ≠ .running →
      let s1 := { s with draws := s.draws.tail, drawCount := s.drawCount + 1 }
      (∀ v : Nat, s.nextDraw = true →
        exec (.ecAddWp v) s = .next { s1 with respStatus := .hwFail, respData := 0 }) ∧
      (∀ v : Nat, s.nextDraw = false → s.ecConfigured = false →
        exec (.ecAddWp v) s = .next { s1 with respStatus := .invalidState, respData := 0 }) ∧
      (s.nextDraw = false → s.ecConfigured = true →
        (∀ v : Nat, v = 0 ∨ 20 < v →
          exec (.ecAddWp v) s = .next { s1 with respStatus := .invalidArg, respData := 0 }) ∧
        (s.wpFullValid = true →
          exec (.ecAddWp 20) s = .next { s1 with respStatus := .invalidState, respData := 0 }) ∧
        (s.wpFullValid = false →
          exec (.ecAddWp 20) s =
            .next { s1 with wpFullValid := true, respStatus := .ok, respData := 0 }) ∧
        ∀ c : Count, 0 < c.val →
          (s.wpFlipValid = true → s.wpFlipVal = c →
            exec (.ecAddWp c.val) s =
              .next { s1 with respStatus := .invalidState, respData := 0 }) ∧
          (s.wpFlipValid = true → s.wpFlipVal ≠ c →
            exec (.ecAddWp c.val) s = .next { s1 with respStatus := .hwFail, respData := 0 }) ∧
          (s.wpFlipValid = false →
            exec (.ecAddWp c.val) s =
              .next
                { s1 with
                  wpFlipValid := true, wpFlipVal := c, respStatus := .ok, respData := 0 })))

/-- R102, R107: the two removals that succeed, and each refusal, in the rule's order. A removal leaves
the event latches and the slot's old value. -/
def Obligations.EcRemoveWpFollowsItsRule : Prop :=
  (∀ a : Arg, decode (0x12#8 ++ a) = .ok (.ecRemoveWp a.toNat)) ∧
  ∀ s : State,
    (∀ v : Nat, s.engState = .running →
      exec (.ecRemoveWp v) s = .next { s with respStatus := .invalidState, respData := 0 }) ∧
    (s.engState ≠ .running →
      let s1 := { s with draws := s.draws.tail, drawCount := s.drawCount + 1 }
      (∀ v : Nat, s.nextDraw = true →
        exec (.ecRemoveWp v) s = .next { s1 with respStatus := .hwFail, respData := 0 }) ∧
      (∀ v : Nat, s.nextDraw = false → s.ecConfigured = false →
        exec (.ecRemoveWp v) s = .next { s1 with respStatus := .invalidState, respData := 0 }) ∧
      (s.nextDraw = false → s.ecConfigured = true →
        (∀ v : Nat, v = 0 ∨ 20 < v →
          exec (.ecRemoveWp v) s = .next { s1 with respStatus := .invalidArg, respData := 0 }) ∧
        (s.wpFullValid = false →
          exec (.ecRemoveWp 20) s = .next { s1 with respStatus := .invalidState, respData := 0 }) ∧
        (s.wpFullValid = true →
          exec (.ecRemoveWp 20) s =
            .next { s1 with wpFullValid := false, respStatus := .ok, respData := 0 }) ∧
        ∀ c : Count, 0 < c.val →
          (s.wpFlipValid = false ∨ s.wpFlipVal ≠ c →
            exec (.ecRemoveWp c.val) s =
              .next { s1 with respStatus := .invalidState, respData := 0 }) ∧
          (s.wpFlipValid = true → s.wpFlipVal = c →
            exec (.ecRemoveWp c.val) s =
              .next { s1 with wpFlipValid := false, respStatus := .ok, respData := 0 })))

/-- R103, R108: no draw, no watch point, no latch, no event. -/
def Obligations.EcClearFollowsItsRule : Prop :=
  decode 0x13000000 = .ok .ecClear ∧
  ∀ s : State,
    (s.engState = .running ∨ s.ecConfigured = false →
      exec .ecClear s = .next { s with respStatus := .invalidState, respData := 0 }) ∧
    (s.engState ≠ .running → s.ecConfigured = true →
      exec .ecClear s = .next { s with ecCount := 0, respStatus := .ok, respData := 0 })

/-- R109: in every engine state. -/
def Obligations.EcGetCountFollowsItsRule : Prop :=
  decode 0x14000000 = .ok .ecGetCount ∧
  ∀ s : State,
    (s.ecConfigured = false →
      exec .ecGetCount s = .next { s with respStatus := .invalidState, respData := 0 }) ∧
    (s.ecConfigured = true →
      exec .ecGetCount s =
        .next { s with respStatus := .ok, respData := BitVec.ofNat 32 s.ecCount.val })

/-- R110: a rising edge, in every engine state and under every schedule. -/
def Obligations.RiseCountsAndLatches : Prop :=
  ∀ s : State, nextLabel? s = some (.input .rise) →
    let s1 := consume (.input .rise) (spendDeferral s)
    (s.ecConfigured = false → step s = .next s1) ∧
    (s.ecConfigured = true → s.ecCount.val = 19 → s.wpFullValid = false →
      step s = .next { s1 with ecCount := 0 }) ∧
    (s.ecConfigured = true → s.ecCount.val = 19 → s.wpFullValid = true →
      step s =
        .next
          { s1 with
            ecCount := 0, evtFullPending := true
            faultWpOverrun := s.faultWpOverrun || s.evtFullPending }) ∧
    (s.ecConfigured = true → ∀ c : Count, c.val = s.ecCount.val + 1 →
      (s.wpFlipValid = true → s.wpFlipVal = c →
        step s =
          .next
            { s1 with
              ecCount := c, evtFlipPending := true, evtFlipVal := c
              faultWpOverrun := s.faultWpOverrun || s.evtFlipPending }) ∧
      (s.wpFlipValid = false ∨ s.wpFlipVal ≠ c → step s = .next { s1 with ecCount := c }))

/-- R111: a falling edge changes nothing. -/
def Obligations.FallChangesNothing : Prop :=
  ∀ s : State, nextLabel? s = some (.input .fall) →
    step s = .next (consume (.input .fall) (spendDeferral s))

/-! ### Delay Actuator -/

/-- R120, R123. -/
def Obligations.DtConfigureFollowsItsRule : Prop :=
  decode 0x20000000 = .ok .dtConfigure ∧
  ∀ s : State,
    (s.engState = .running →
      exec .dtConfigure s = .next { s with respStatus := .invalidState, respData := 0 }) ∧
    (s.engState ≠ .running → s.nextDraw = true →
      exec .dtConfigure s =
        .next
          { s with
            draws := s.draws.tail, drawCount := s.drawCount + 1
            respStatus := .hwFail, respData := 0 }) ∧
    (s.engState ≠ .running → s.nextDraw = false →
      exec .dtConfigure s =
        .next
          { s with
            draws := s.draws.tail, drawCount := s.drawCount + 1
            dtConfigured := true, dtRunning := false, dtCount := 0, dtEvtPending := false
            respStatus := .ok, respData := 0 })

/-- R121, R124: the arm restarts a countdown and discards a latched expiry. -/
def Obligations.DtResetAndStartFollowsItsRule : Prop :=
  decode 0x21000000 = .ok .dtResetAndStart ∧
  ∀ s : State,
    (s.engState = .running ∨ s.dtConfigured = false →
      exec .dtResetAndStart s = .next { s with respStatus := .invalidState, respData := 0 }) ∧
    (s.engState ≠ .running → s.dtConfigured = true →
      exec .dtResetAndStart s =
        .next
          { s with
            dtCount := 0, dtRunning := true, dtEvtPending := false
            respStatus := .ok, respData := 0 })

/-- R122, R125: the count and a latched expiry stay. -/
def Obligations.DtStopFollowsItsRule : Prop :=
  decode 0x22000000 = .ok .dtStop ∧
  ∀ s : State,
    (s.engState = .running ∨ s.dtConfigured = false →
      exec .dtStop s = .next { s with respStatus := .invalidState, respData := 0 }) ∧
    (s.engState ≠ .running → s.dtConfigured = true →
      exec .dtStop s = .next { s with dtRunning := false, respStatus := .ok, respData := 0 })

/-- R128: one microsecond, in every engine state and under every schedule. -/
def Obligations.TickAdvancesClockAndTimer : Prop :=
  ∀ s : State, nextLabel? s = some (.input .tick) →
    let s1 := consume (.input .tick) (spendDeferral s)
    (s.dtRunning = false → step s = .next { s1 with now := s.now + 1 }) ∧
    (s.dtRunning = true → s.dtCount + 1 ≠ 2000 →
      step s = .next { s1 with now := s.now + 1, dtCount := s.dtCount + 1 }) ∧
    (s.dtRunning = true → s.dtCount + 1 = 2000 →
      step s =
        .next
          { s1 with
            now := s.now + 1, dtCount := 2000, dtRunning := false, dtEvtPending := true })

/-- R128, R250: an arm latches its expiry in the 2000th tick after it and not before. -/
def Obligations.ExpiryComesExactly2000TicksAfterArm : Prop :=
  ∀ (s : State) (rest : List Input),
    s.dtRunning = true → s.dtCount = 0 → s.dtEvtPending = false → Quiet s →
    s.inputs = ticks 2000 ++ rest →
      (∀ k < 2000, RunsTo k s
        { s with
          inputs := ticks (2000 - k) ++ rest, now := s.now + BitVec.ofNat 64 k
          dtCount := BitVec.ofNat 32 k }) ∧
      RunsTo 2000 s
        { s with
          inputs := rest, now := s.now + 2000
          dtCount := 2000, dtRunning := false, dtEvtPending := true }

/-- R129: a stopped timer stays as it is for any number of ticks: one expiry for one arm. -/
def Obligations.StoppedTimerNeverExpires : Prop :=
  ∀ (s : State) (k : Nat) (rest : List Input),
    s.dtRunning = false → Quiet s → s.inputs = ticks k ++ rest →
      RunsTo k s { s with inputs := rest, now := s.now + BitVec.ofNat 64 k }

/-! ### Duty-Cycle Controller -/

/-- R136, a start with every draw 0, known or not: four draws where the threshold needs a FLIP point,
three otherwise. That `prev_full_ts` keeps its value, its valid bit alone being cleared, is R136's
pseudocode against the word "zeroes" of R214 (DEDUCED, log entry 19). -/
def Obligations.EngStartArmsTheEngine : Prop :=
  decode 0x30000000 = .ok .engStart ∧
  ∀ s : State, s.engState = .idle →
    (0 < s.activeThreshold.val → s.activeThreshold.val < 20 →
      (∀ k < 4, drawAt s k = false) →
      ∀ c : Count, c.val = s.activeThreshold.val →
        exec .engStart s =
          .next
            { s with
              draws := s.draws.drop 4, drawCount := s.drawCount + 4
              ecConfigured := true, ecGlitchNs := Config.glitchFilterNs, ecCount := 0
              wpFlipValid := true, wpFlipVal := c, wpFullValid := true
              evtFlipPending := false, evtFullPending := false
              dtConfigured := true, dtRunning := false, dtCount := 0, dtEvtPending := false
              triggerCount := 0, cycleCount := 0, lastCycleTimeUs := 0, lastCycleValid := false
              prevFullValid := false, pol := none, pendingValid := false
              lastApplyResult := .none, applyEventPending := false, engState := .running
              respStatus := .ok, respData := 0 }) ∧
    (s.activeThreshold.val = 0 ∨ s.activeThreshold.val = 20 →
      (∀ k < 3, drawAt s k = false) →
        exec .engStart s =
          .next
            { s with
              draws := s.draws.drop 3, drawCount := s.drawCount + 3
              ecConfigured := true, ecGlitchNs := Config.glitchFilterNs, ecCount := 0
              wpFlipValid := false, wpFullValid := true
              evtFlipPending := false, evtFullPending := false
              dtConfigured := true, dtRunning := false, dtCount := 0, dtEvtPending := false
              triggerCount := 0, cycleCount := 0, lastCycleTimeUs := 0, lastCycleValid := false
              prevFullValid := false, pol := none, pendingValid := false
              lastApplyResult := .none, applyEventPending := false, engState := .running
              respStatus := .ok, respData := 0 })

/-- R136, R202: the first failing set-up call ends the start and leaves the engine FAILED and both
peripherals unconfigured; `ec_glitch_ns` is written once the first call has succeeded, and the FLIP
slot's value once the FLIP point has been added. Outside IDLE the command is refused and takes no draw. -/
def Obligations.EngStartFailureIsFatal : Prop :=
  ∀ s : State,
    (s.engState ≠ .idle →
      exec .engStart s = .next { s with respStatus := .invalidState, respData := 0 }) ∧
    (s.engState = .idle → ∀ (zeros : Nat) (later : List Bool),
      s.draws = List.replicate zeros false ++ true :: later →
      zeros < (if 0 < s.activeThreshold.val ∧ s.activeThreshold.val < 20 then 4 else 3) →
        ∃ t, exec .engStart s = .next t ∧
          (zeros = 3 → t.wpFlipVal.val = s.activeThreshold.val) ∧
          (zeros ≠ 3 → t.wpFlipVal = s.wpFlipVal) ∧
          t =
            { s with
              draws := later, drawCount := s.drawCount + zeros + 1
              ecGlitchNs := if zeros = 0 then s.ecGlitchNs else Config.glitchFilterNs
              ecConfigured := false, ecCount := 0
              wpFlipValid := false, wpFlipVal := t.wpFlipVal, wpFullValid := false
              evtFlipPending := false, evtFullPending := false
              dtConfigured := false, dtRunning := false, dtCount := 0, dtEvtPending := false
              engState := .failed, respStatus := .hwFail, respData := 0 })

/-- R137: the encoding and the signed operand, and the four outcomes of a request. -/
def Obligations.SetDutyCycleFollowsItsRule : Prop :=
  (∀ a : Arg, decode (0x31#8 ++ a) = .ok (.setDutyCycle a.toInt)) ∧
  ∀ s : State,
    (∀ t : Int, t < 0 ∨ 20 < t →
      exec (.setDutyCycle t) s = .next { s with respStatus := .invalidArg, respData := 0 }) ∧
    ∀ v : Threshold,
      (s.engState ≠ .running →
        exec (.setDutyCycle v.val) s =
          .next { s with activeThreshold := v, respStatus := .ok, respData := 0 }) ∧
      (s.engState = .running → v = s.activeThreshold →
        exec (.setDutyCycle v.val) s =
          .next { s with pendingValid := false, respStatus := .ok, respData := 0 }) ∧
      (s.engState = .running → v ≠ s.activeThreshold →
        exec (.setDutyCycle v.val) s =
          .next
            { s with
              pendingThreshold := v, pendingValid := true, respStatus := .ok, respData := 0 })

/-- R138: the active threshold and 100 times its fraction of N. -/
def Obligations.GetDutyCycleReportsActive : Prop :=
  decode 0x32000000 = .ok .getDutyCycle ∧
  ∀ s : State, ∃ d : Word,
    exec .getDutyCycle s = .next { s with respStatus := .ok, respData := d } ∧
    d.toNat = 256 * (s.activeThreshold.val * 100 / 20) + s.activeThreshold.val

/-- R139, R140, R158: where none of the draws it makes fails, the FULL handler swaps the FLIP point,
commits the request and raises the notification, besides what it does in every cycle. Nothing else
changes: a slot that is emptied keeps its old value. -/
def Obligations.BoundaryAppliesTheRequest : Prop :=
  ∀ s : State, Invariants s → FlipFollowsActive s →
    nextLabel? s = some .wpService → s.evtFlipPending = false → s.pendingValid = true →
    (∀ k < swapDraws s, drawAt s k = false) →
      ∃ v : Count,
        (0 < s.pendingThreshold.val ∧ s.pendingThreshold.val < 20 →
          v.val = s.pendingThreshold.val) ∧
        (s.pendingThreshold.val = 0 ∨ s.pendingThreshold.val = 20 → v = s.wpFlipVal) ∧
        step s =
          .next
            { afterFull s.pendingThreshold (spendDeferral s) with
              activeThreshold := s.pendingThreshold, pendingValid := false
              lastApplyResult := .ok, applyEventPending := true
              wpFlipValid := decide (0 < s.pendingThreshold.val ∧ s.pendingThreshold.val < 20)
              wpFlipVal := v
              draws := s.draws.drop (swapDraws s), drawCount := s.drawCount + swapDraws s }

/-- R139 to R141, R158, R211: what each failing draw of the swap leaves, for every pending threshold that
makes that draw: the removal is tried whatever the new threshold is. In all of them the setting is kept,
the request is gone, the engine runs on, and the handler does all else it does in every cycle, arming the
timer for the old setting. -/
def Obligations.FailedSwapKeepsTheSetting : Prop :=
  ∀ s : State, Invariants s → FlipFollowsActive s →
    nextLabel? s = some .wpService → s.evtFlipPending = false → s.pendingValid = true →
      ∀ (bits : List Bool) (r : ApplyResult),
        (s.wpFlipValid = true ∧ bits = [true] ∧ r = .failRemove) ∨
        (0 < s.pendingThreshold.val ∧ s.pendingThreshold.val < 20 ∧
          ((s.wpFlipValid = true ∧ bits = [false, true, false] ∧ r = .failRolledBack) ∨
           (s.wpFlipValid = true ∧ bits = [false, true, true] ∧ r = .failUnrestored) ∨
           (s.wpFlipValid = false ∧ bits = [true] ∧ r = .failRolledBack))) →
        (∀ (k : Nat) (h : k < bits.length), drawAt s k = bits[k]) →
          step s =
            .next
              { afterFull s.activeThreshold (spendDeferral s) with
                pendingValid := false, lastApplyResult := r, applyEventPending := true
                wpFlipValid := s.wpFlipValid && decide (r ≠ .failUnrestored)
                faultFlipUnrestored := s.faultFlipUnrestored || decide (r = .failUnrestored)
                draws := s.draws.drop bits.length, drawCount := s.drawCount + bits.length }

/-- R142: a request given at any point of a cycle, followed by the rest of that cycle's edges in any
mixture with ticks and falling edges, is the setting at the end, with nothing pending. -/
def Obligations.RequestIsInForceAfterTheCycle : Prop :=
  ∀ (s : State) (t : Threshold) (cycle rest : List Input) (later : List Bool),
    Invariants s → FlipFollowsActive s → Quiet s → Eager s → s.engState = .running →
    s.draws = false :: false :: later →
    (∀ e ∈ cycle, e = .rise ∨ e = .fall ∨ e = .tick) →
    cycle.count .rise = 20 - s.ecCount.val →
    s.inputs = .cmd (encode (.setDutyCycle t.val)) :: (cycle ++ rest) →
      ∃ k u, RunsTo k s u ∧ u.inputs = rest ∧ Quiet u ∧ u.engState = .running ∧ u.ecCount = 0 ∧
        u.activeThreshold = t ∧ u.pendingValid = false ∧ u.respStatus = .ok

/-! ### Timing Engine -/

/-- R157, R160: the FLIP branch records LOW and arms the timer; it does not touch the pin. -/
def Obligations.FlipServiceSchedulesLow : Prop :=
  ∀ s : State, nextLabel? s = some .wpService → s.dtConfigured = true →
    s.evtFlipPending = true → 0 < s.evtFlipVal.val →
    s.evtFlipVal.val = s.activeThreshold.val →
      step s =
        .next
          { spendDeferral s with
            evtFlipPending := false, triggerCount := s.triggerCount + 1
            faultArmSupersede := s.faultArmSupersede || s.pol.isSome
            pol := some .low, dtRunning := true, dtCount := 0, dtEvtPending := false }

/-- R156, R158, R160: time-keeping, the clear, the level of the next cycle. With no request pending the
FULL handler does nothing else; with one pending and whatever draws, it does all of this too, for the
threshold in force afterwards, and beyond it writes only what the application of a request may write. -/
def Obligations.FullServiceSchedulesTheNextLevel : Prop :=
  ∀ s : State, nextLabel? s = some .wpService → s.dtConfigured = true → s.ecConfigured = true →
    s.evtFlipPending = false →
      (s.pendingValid = false →
        step s = .next (afterFull s.activeThreshold (spendDeferral s))) ∧
      ∃ t, step s = .next t ∧ t.pendingValid = false ∧
        (t.activeThreshold = s.activeThreshold ∨ t.activeThreshold = s.pendingThreshold) ∧
        t =
          { afterFull t.activeThreshold (spendDeferral s) with
            activeThreshold := t.activeThreshold, pendingValid := t.pendingValid
            lastApplyResult := t.lastApplyResult, applyEventPending := t.applyEventPending
            wpFlipValid := t.wpFlipValid, wpFlipVal := t.wpFlipVal
            faultFlipUnrestored := t.faultFlipUnrestored
            draws := t.draws, drawCount := t.drawCount }

/-- R159: a FLIP event whose value is not the active threshold counts as a trigger and does nothing
else. -/
def Obligations.StaleFlipOnlyCounts : Prop :=
  ∀ s : State, nextLabel? s = some .wpService → s.evtFlipPending = true →
    s.evtFlipVal.val ≠ s.activeThreshold.val →
      step s =
        .next
          { spendDeferral s with evtFlipPending := false, triggerCount := s.triggerCount + 1 }

/-- R206, R207, R9: which handler step comes next, and when the environment's step does. How a lag is
held (`handlerLags`) is the model's choice (log entry 3), and that the priority also binds a schedule with
lag is DEDUCED, unsafe under another reading of R207 and R243 (log entry 14). -/
def Obligations.HandlersRunInPriorityOrder : Prop :=
  ∀ s : State,
    (s.engState = .running → s.dtEvtPending = true → handlerLags s = false →
      nextLabel? s = some .dtService) ∧
    (s.engState = .running → s.dtEvtPending = false →
      s.evtFlipPending = true ∨ s.evtFullPending = true → handlerLags s = false →
      nextLabel? s = some .wpService) ∧
    (s.engState ≠ .running ∨
        (s.dtEvtPending = false ∧ s.evtFlipPending = false ∧ s.evtFullPending = false) ∨
        handlerLags s = true →
      nextLabel? s = s.inputs.head?.map .input) ∧
    (∀ t, nextLabel? s = some .wpService → s.evtFlipPending = true → step s = .next t →
      t.evtFlipPending = false ∧ t.evtFullPending = s.evtFullPending)

/-- R165: the expiry handler writes the intent, if there is one, and consumes it. -/
def Obligations.ExpiryServiceWritesThePin : Prop :=
  ∀ s : State, nextLabel? s = some .dtService → s.dtConfigured = true →
    (s.pol = none →
      step s = .next { spendDeferral s with dtEvtPending := false, dtRunning := false }) ∧
    ∀ level, s.pol = some level →
      step s =
        .next
          { spendDeferral s with
            dtEvtPending := false, dtRunning := false, out := level, pol := none }

/-- R166: the pin has one writer besides reset. -/
def Obligations.OnlyExpiryServiceWritesThePin : Prop :=
  ∀ s t : State, step s = .next t → t.out ≠ s.out →
    nextLabel? s = some .dtService ∨ nextLabel? s = some (.input .reset)

/-- R167: in the reference schedule an arm's level is on the pin 2000 ticks later, and the pin keeps
its old level until then. -/
def Obligations.PinFollowsTheArmAfter2000Ticks : Prop :=
  ∀ (s : State) (level : Level) (rest : List Input),
    s.engState = .running → s.dtConfigured = true → s.dtRunning = true → s.dtCount = 0 →
    s.pol = some level → Quiet s → Eager s → s.inputs = ticks 2000 ++ rest →
      (∀ k ≤ 2000, ∀ t, RunsTo k s t → t.out = s.out) ∧
      RunsTo 2001 s
        { s with
          inputs := rest, now := s.now + 2000
          dtCount := 2000, dtRunning := false, pol := none, out := level }

/-- R155: a rising edge moves the phase to WAITING_FULL where it reaches the FLIP point, to
WAITING_FLIP where it wraps, and nowhere else. -/
def Obligations.PhaseMovesAtFlipAndBoundary : Prop :=
  ∀ s t : State, Invariants s → s.engState = .running → nextLabel? s = some (.input .rise) →
    step s = .next t →
      phase? t =
        if t.ecCount.val = 0 then some .waitingFlip
        else if t.wpFlipValid = true ∧ t.wpFlipVal = t.ecCount then some .waitingFull
        else phase? s

/-- R233: after a start on a LOW pin no FULL event is serviced before the twentieth rising edge, that
edge's is, and the pin is LOW all the way there. -/
def Obligations.FirstBoundaryIsTheTwentiethEdge : Prop :=
  ∀ (s : State) (early rest : List Input) (later : List Bool),
    s.engState = .idle → Eager s → s.out = .low →
    s.draws = [false, false, false, false] ++ later →
    (∀ e ∈ early, e = .rise ∨ e = .fall ∨ e = .tick) → early.count .rise = 19 →
    s.inputs = .cmd (encode .engStart) :: (early ++ .rise :: rest) →
      ∃ k u, RunsTo k s u ∧ u.inputs = rest ∧ Quiet u ∧ u.engState = .running ∧
        u.cycleCount = 1 ∧ u.ecCount = 0 ∧ u.prevFullTs = u.now ∧ u.prevFullValid = true ∧
        u.lastCycleValid = false ∧ u.respStatus = .ok ∧
        u.triggerCount =
          (if 0 < s.activeThreshold.val ∧ s.activeThreshold.val < 20 then 2 else 1) ∧
        u.pol = some (if s.activeThreshold.val = 0 then .low else .high) ∧
        u.dtRunning = true ∧ u.dtCount = 0 ∧
        ∀ j ≤ k, ∀ v, RunsTo j s v →
          v.out = .low ∧ (0 < j → rest.length < v.inputs.length → v.cycleCount = 0)

/-- R168, for edges at equal distances of more than 2000 microseconds: over one cycle the pin is HIGH from
2000 microseconds after the boundary to 2000 microseconds after the FLIP edge, and LOW otherwise; the
cycle ends as it began. -/
def Obligations.WaveformOfOneCycle : Prop :=
  ∀ (s : State) (d : Nat) (rest : List Input), Invariants s → Quiet s → Eager s →
    s.engState = .running → s.wpFlipValid = true → s.wpFlipVal.val = s.activeThreshold.val →
    s.pendingValid = false → s.ecCount = 0 → s.pol = some .high → s.dtRunning = true →
    s.dtCount = 0 → s.out = .low → 2000 < d → 20 * d < 2 ^ 64 →
    s.inputs = risesEvery 20 d ++ rest →
      (∀ (k : Nat) (v : State) (ahead : List Input), RunsTo k s v → Quiet v →
        v.inputs = ahead ++ rest →
          v.out =
            if 2000 ≤ (v.now - s.now).toNat ∧
                (v.now - s.now).toNat < s.activeThreshold.val * d + 2000 then .high
            else .low) ∧
      ∃ k u, RunsTo k s u ∧ u.inputs = rest ∧ Quiet u ∧ u.now = s.now + BitVec.ofNat 64 (20 * d) ∧
        u.engState = .running ∧ u.wpFlipValid = true ∧ u.wpFlipVal = s.wpFlipVal ∧
        u.activeThreshold = s.activeThreshold ∧ u.ecCount = 0 ∧ u.pol = some .high ∧
        u.dtRunning = true ∧ u.dtCount = 0 ∧ u.out = .low ∧
        u.cycleCount = s.cycleCount + 1 ∧ u.triggerCount = s.triggerCount + 2 ∧
        u.faultArmSupersede = s.faultArmSupersede

/-! ### Statistics, notification, status -/

/-- R180, R181, R182: the three counter reads. -/
def Obligations.CounterReadsReport : Prop :=
  decode 0x40000000 = .ok .getTriggerCount ∧ decode 0x41000000 = .ok .getCycleCount ∧
  decode 0x42000000 = .ok .getLastCycleTime ∧
  ∀ s : State,
    exec .getTriggerCount s = .next { s with respStatus := .ok, respData := s.triggerCount } ∧
    exec .getCycleCount s = .next { s with respStatus := .ok, respData := s.cycleCount } ∧
    exec .getLastCycleTime s = .next { s with respStatus := .ok, respData := s.lastCycleTimeUs }

/-- R183, R184: the frequency in millihertz, by the formula over the integers. -/
def Obligations.FrequencyFollowsTheFormula : Prop :=
  decode 0x43000000 = .ok .getFrequency ∧
  ∀ s : State,
    (s.lastCycleValid = false →
      exec .getFrequency s = .next { s with respStatus := .notValid, respData := 0 }) ∧
    (s.lastCycleValid = true → ∃ f : Word,
      exec .getFrequency s = .next { s with respStatus := .ok, respData := f } ∧
      (s.lastCycleTimeUs = 0 → f.toNat = 2 ^ 32 - 1) ∧
      (s.lastCycleTimeUs ≠ 0 →
        f.toNat = min (20 * 500000000 / s.lastCycleTimeUs.toNat) (2 ^ 32 - 1)))

/-- R185, with the numbers of R27: the notification is consumed once. -/
def Obligations.ApplyResultIsTakenOnce : Prop :=
  decode 0x44000000 = .ok .takeApplyResult ∧
  ∀ s : State,
    (s.applyEventPending = false →
      exec .takeApplyResult s = .next { s with respStatus := .notValid, respData := 0 }) ∧
    (s.applyEventPending = true → ∃ t d,
      exec .takeApplyResult s = .next t ∧
      t = { s with
            applyEventPending := false, lastApplyResult := .none
            respStatus := .ok, respData := d } ∧
      (s.lastApplyResult = .none → d = 0) ∧ (s.lastApplyResult = .ok → d = 1) ∧
      (s.lastApplyResult = .failRemove → d = 2) ∧ (s.lastApplyResult = .failRolledBack → d = 3) ∧
      (s.lastApplyResult = .failUnrestored → d = 4) ∧
      exec .takeApplyResult t = .next { t with respStatus := .notValid, respData := 0 })

/-- R186, R187, with the numbers of R27 and R28: each field of the STATUS word in its bits. -/
def Obligations.StatusWordHoldsEveryField : Prop :=
  decode 0x45000000 = .ok .getStatus ∧
  ∀ s : State, ∃ w : Word,
    exec .getStatus s = .next { s with respStatus := .ok, respData := w } ∧
    (s.engState = .idle → w.extractLsb' 0 2 = 0) ∧
    (s.engState = .running → w.extractLsb' 0 2 = 1) ∧
    (s.engState = .failed → w.extractLsb' 0 2 = 2) ∧
    w.getLsbD 2 = (s.wpFlipValid && decide (s.wpFlipVal.val ≤ s.ecCount.val)) ∧
    w.getLsbD 3 = decide (s.out = .high) ∧
    (s.pol = none → w.extractLsb' 4 2 = 0) ∧
    (s.pol = some .low → w.extractLsb' 4 2 = 1) ∧
    (s.pol = some .high → w.extractLsb' 4 2 = 2) ∧
    w.getLsbD 6 = s.dtRunning ∧
    w.getLsbD 7 = s.dtEvtPending ∧
    w.getLsbD 8 = s.wpFlipValid ∧
    (w.extractLsb' 9 5).toNat = (if s.wpFlipValid = true then s.wpFlipVal.val else 0) ∧
    w.getLsbD 14 = s.wpFullValid ∧
    w.getLsbD 15 = s.evtFlipPending ∧
    w.getLsbD 16 = s.evtFullPending ∧
    w.getLsbD 17 = s.pendingValid ∧
    (w.extractLsb' 18 5).toNat = (if s.pendingValid = true then s.pendingThreshold.val else 0) ∧
    w.getLsbD 23 = s.applyEventPending ∧
    (s.lastApplyResult = .none → w.extractLsb' 24 3 = 0) ∧
    (s.lastApplyResult = .ok → w.extractLsb' 24 3 = 1) ∧
    (s.lastApplyResult = .failRemove → w.extractLsb' 24 3 = 2) ∧
    (s.lastApplyResult = .failRolledBack → w.extractLsb' 24 3 = 3) ∧
    (s.lastApplyResult = .failUnrestored → w.extractLsb' 24 3 = 4) ∧
    w.getLsbD 27 = s.faultWpOverrun ∧
    w.getLsbD 28 = s.faultArmSupersede ∧
    w.getLsbD 29 = s.faultFlipUnrestored ∧
    w.getLsbD 30 = s.ecConfigured ∧
    w.getLsbD 31 = s.dtConfigured

/-- R156, R188: the trigger count rises by one, modulo 2^32, in each `WP_SERVICE`, and otherwise
changes only where a start or a reset zeroes it. -/
def Obligations.TriggerCountCountsServices : Prop :=
  ∀ s t : State, step s = .next t →
    (nextLabel? s = some .wpService → t.triggerCount = s.triggerCount + 1) ∧
    (nextLabel? s ≠ some .wpService → t.triggerCount ≠ s.triggerCount →
      t.triggerCount = 0 ∧
      (nextLabel? s = some (.input .reset) ∨
        ∃ l, nextLabel? s = some l ∧ l.runs .engStart ∧ t.engState = .running))

/-- R65: the reads change nothing but the response, and reading again gives the same answer. -/
def Obligations.ReadsAreIdempotent : Prop :=
  ∀ i ∈ [Instr.ecGetCount, .getDutyCycle, .getTriggerCount, .getCycleCount, .getLastCycleTime,
      .getFrequency, .getStatus],
    ∀ s t : State, exec i s = .next t →
      t = { s with respStatus := t.respStatus, respData := t.respData } ∧ exec i t = .next t

/-! ### Errors, contexts, ownership -/

/-- R83: the numbers that the 8-bit port `resp_status` shows, no other one being produced; and which of
them a command answers, by name: an illegal word 4, a threshold outside its range 1, a direct command in
RUNNING 2, a start whose first draw fails 3, a frequency not yet valid 5, a counter read 0. -/
def Obligations.StatusCodesAreThoseOfTheSpec : Prop :=
  (∀ (w : Word) (s t : State), command w s = .next t →
    t.respStatus.code.toNat ≤ 5 ∧
    (∀ e, decode w = .error e → t.respStatus.code = 4#8) ∧
    (∀ i, decode w = .ok i → t.respStatus.code ≠ 4#8) ∧
    (t.respStatus.code ≠ 0#8 → t.respData = 0)) ∧
  ∀ s : State,
    (∀ v : Int, v < 0 ∨ 20 < v → ∃ t, exec (.setDutyCycle v) s = .next t ∧
      t.respStatus.code = 1#8) ∧
    (s.engState = .running → ∃ t, exec .ecClear s = .next t ∧ t.respStatus.code = 2#8) ∧
    (s.engState = .idle → drawAt s 0 = true → ∃ t, exec .engStart s = .next t ∧
      t.respStatus.code = 3#8) ∧
    (s.lastCycleValid = false → ∃ t, exec .getFrequency s = .next t ∧ t.respStatus.code = 5#8) ∧
    ∃ t, exec .getCycleCount s = .next t ∧ t.respStatus.code = 0#8

/-- R215: each of the seven direct commands is refused while the engine runs, with no state change and
no draw. -/
def Obligations.DirectCommandsRefusedWhileRunning : Prop :=
  ∀ (s : State) (i : Instr), s.engState = .running →
    (∃ v, i = .ecConfigure v ∨ i = .ecAddWp v ∨ i = .ecRemoveWp v) ∨
      i ∈ [Instr.ecClear, .dtConfigure, .dtResetAndStart, .dtStop] →
    exec i s = .next { s with respStatus := .invalidState, respData := 0 }

/-- R214, last paragraph but one: while the engine runs, the task context writes only the request and
the notification, besides its response. -/
def Obligations.TaskWritesOnlyRequestWhileRunning : Prop :=
  ∀ (w : Word) (s t : State), s.engState = .running → command w s = .next t →
    t =
      { s with
        pendingValid := t.pendingValid, pendingThreshold := t.pendingThreshold
        lastApplyResult := t.lastApplyResult, applyEventPending := t.applyEventPending
        respStatus := t.respStatus, respData := t.respData }

/-- R214: for each field, the steps that may change it. -/
def Obligations.EveryFieldHasItsWriters : Prop :=
  ∀ (s t : State) (l : Label), nextLabel? s = some l → l ≠ .input .reset → step s = .next t →
    (t.ecCount ≠ s.ecCount →
      l = .input .rise ∨ (l = .wpService ∧ s.evtFlipPending = false) ∨ l.runs .engStart ∨
        (s.engState ≠ .running ∧ (l.configuresCounter ∨ l.runs .ecClear))) ∧
    (t.ecConfigured ≠ s.ecConfigured ∨ t.ecGlitchNs ≠ s.ecGlitchNs →
      l.runs .engStart ∨ (s.engState ≠ .running ∧ l.configuresCounter)) ∧
    (t.wpFlipValid ≠ s.wpFlipValid ∨ t.wpFlipVal ≠ s.wpFlipVal →
      (l = .wpService ∧ s.evtFlipPending = false) ∨ l.runs .engStart ∨
        (s.engState ≠ .running ∧ (l.configuresCounter ∨ ∃ v, l.movesWatchPoint v))) ∧
    (t.wpFullValid ≠ s.wpFullValid →
      l.runs .engStart ∨
        (s.engState ≠ .running ∧ (l.configuresCounter ∨ l.movesWatchPoint 20))) ∧
    (t.evtFlipPending ≠ s.evtFlipPending ∨ t.evtFlipVal ≠ s.evtFlipVal ∨
        t.evtFullPending ≠ s.evtFullPending →
      l = .input .rise ∨ l = .wpService ∨ l.runs .engStart ∨
        (s.engState ≠ .running ∧ l.configuresCounter)) ∧
    (t.dtConfigured ≠ s.dtConfigured →
      l.runs .engStart ∨ (s.engState ≠ .running ∧ l.runs .dtConfigure)) ∧
    (t.dtRunning ≠ s.dtRunning ∨ t.dtCount ≠ s.dtCount →
      l = .input .tick ∨ l = .wpService ∨ l = .dtService ∨ l.runs .engStart ∨
        (s.engState ≠ .running ∧
          (l.runs .dtConfigure ∨ l.runs .dtResetAndStart ∨ l.runs .dtStop))) ∧
    (t.dtEvtPending ≠ s.dtEvtPending →
      l = .input .tick ∨ l = .wpService ∨ l = .dtService ∨ l.runs .engStart ∨
        (s.engState ≠ .running ∧ (l.runs .dtConfigure ∨ l.runs .dtResetAndStart))) ∧
    (t.engState ≠ s.engState → l.runs .engStart) ∧
    (t.activeThreshold ≠ s.activeThreshold →
      (l = .wpService ∧ s.evtFlipPending = false) ∨
        (s.engState ≠ .running ∧ ∃ v, l.runs (.setDutyCycle v))) ∧
    (t.pendingValid ≠ s.pendingValid ∨ t.pendingThreshold ≠ s.pendingThreshold →
      (l = .wpService ∧ s.evtFlipPending = false) ∨ l.runs .engStart ∨
        (s.engState = .running ∧ ∃ v, l.runs (.setDutyCycle v))) ∧
    (t.lastApplyResult ≠ s.lastApplyResult ∨ t.applyEventPending ≠ s.applyEventPending →
      (l = .wpService ∧ s.evtFlipPending = false) ∨ l.runs .takeApplyResult ∨ l.runs .engStart) ∧
    (t.pol ≠ s.pol → l = .wpService ∨ l = .dtService ∨ l.runs .engStart) ∧
    (t.out ≠ s.out → l = .dtService) ∧
    (t.now ≠ s.now → l = .input .tick) ∧
    (t.prevFullTs ≠ s.prevFullTs ∨ t.prevFullValid ≠ s.prevFullValid ∨
        t.triggerCount ≠ s.triggerCount ∨ t.cycleCount ≠ s.cycleCount ∨
        t.lastCycleTimeUs ≠ s.lastCycleTimeUs ∨ t.lastCycleValid ≠ s.lastCycleValid →
      l = .wpService ∨ l.runs .engStart) ∧
    (t.faultWpOverrun ≠ s.faultWpOverrun → l = .input .rise) ∧
    (t.faultArmSupersede ≠ s.faultArmSupersede ∨ t.faultFlipUnrestored ≠ s.faultFlipUnrestored →
      l = .wpService)

/-- R212: a fault flag, once set, is cleared by no step but `RESET`. -/
def Obligations.FaultFlagsAreSticky : Prop :=
  ∀ s t : State, step s = .next t → nextLabel? s ≠ some (.input .reset) →
    (s.faultWpOverrun = true → t.faultWpOverrun = true) ∧
    (s.faultArmSupersede = true → t.faultArmSupersede = true) ∧
    (s.faultFlipUnrestored = true → t.faultFlipUnrestored = true)

/-- R32: the fault flags change no rule: with other flags the same step does the same to everything
but the flags, and only the data of `GET_STATUS` can tell. -/
def Obligations.FaultFlagsChangeNoRule : Prop :=
  ∀ (s t : State) (a b c : Bool), step s = .next t →
    ∃ t', step
        { s with faultWpOverrun := a, faultArmSupersede := b, faultFlipUnrestored := c } =
          .next t' ∧
      t =
        { t' with
          faultWpOverrun := t.faultWpOverrun, faultArmSupersede := t.faultArmSupersede
          faultFlipUnrestored := t.faultFlipUnrestored, respData := t.respData } ∧
      (nextLabel? s ≠ some (.input (.cmd 0x45000000)) → t'.respData = t.respData)

/-- R113: the glitch-filter setting has no effect on anything but itself. -/
def Obligations.GlitchSettingHasNoEffect : Prop :=
  ∀ (s t : State) (g : Arg), step s = .next t →
    ∃ t', step { s with ecGlitchNs := g } = .next t' ∧ t = { t' with ecGlitchNs := t.ecGlitchNs }

/-! ### The whole machine -/

/-- 70_reset_and_hazards.md section 3: the rules give one behaviour for every trace, so nothing stops the
block (DEDUCED, log entry 18). Where no handler is to run and the environment takes no step, R231 says
that nothing executes, and the next state is the model's choice (log entry 7). -/
def Obligations.EveryStepAnswersNext : Prop := ∀ s : State, ∃ t, step s = .next t

/-- R230: what `RESET` writes, and that `now` is not written. That the model's own fields are not either is
DEDUCED (log entry 8). -/
def Obligations.ResetWritesEveryFieldButNow : Prop :=
  ∀ s : State, nextLabel? s = some (.input .reset) →
    step s =
      .next
        { consume (.input .reset) (spendDeferral s) with
          ecConfigured := false, ecGlitchNs := 0, ecCount := 0
          wpFlipValid := false, wpFlipVal := 0, wpFullValid := false
          evtFlipPending := false, evtFlipVal := 0, evtFullPending := false
          dtConfigured := false, dtRunning := false, dtCount := 0, dtEvtPending := false
          engState := .idle, activeThreshold := 0, pendingValid := false, pendingThreshold := 0
          lastApplyResult := .none, applyEventPending := false
          pol := none, out := .low, prevFullTs := 0, prevFullValid := false
          triggerCount := 0, cycleCount := 0, lastCycleTimeUs := 0, lastCycleValid := false
          faultWpOverrun := false, faultArmSupersede := false, faultFlipUnrestored := false
          respStatus := .ok, respData := 0 }

/-- R35 at the initial state. -/
def Obligations.ResetStateIsSafe : Prop :=
  Invariants State.reset ∧ IntentArmed State.reset ∧ FlipFollowsActive State.reset ∧ NoFaults State.reset

/-- R35: the invariants I1 to I10 are kept by every step, for any draws and any schedule. -/
def Obligations.StepKeepsTheInvariants : Prop :=
  ∀ s t : State, Invariants s → step s = .next t → Invariants t

/-- R28, R35: an intent is set exactly while its arm is outstanding, kept by every step. -/
def Obligations.StepKeepsIntentArmed : Prop :=
  ∀ s t : State, Invariants s → IntentArmed s → step s = .next t → IntentArmed t

/-- R140: the registered FLIP point of a running engine is that of the active threshold, kept by every
step, also after a failed restore. -/
def Obligations.StepKeepsFlipFollowsActive : Prop :=
  ∀ s t : State, Invariants s → FlipFollowsActive s → step s = .next t → FlipFollowsActive t

/-- R9, R203: from a quiet state a step leaves at most one latch set in a running engine, and cannot
overrun one. -/
def Obligations.AtMostOneHandlerDue : Prop :=
  ∀ s t : State, Quiet s → step s = .next t → t.engState = .running →
    latchesSet t ≤ 1 ∧ t.faultWpOverrun = s.faultWpOverrun

/-- R9, R35's last paragraph: in the reference schedule the due handler runs at once and leaves no
latch set. -/
def Obligations.DueHandlerLeavesQuiet : Prop :=
  ∀ s t : State, Eager s → latchesSet s ≤ 1 → handlerEnabled s = true → step s = .next t →
    Quiet t ∧ t.inputs = s.inputs ∧ t.now = s.now

/-- R240: with rising edges more than 2000 microseconds apart, in the reference schedule, no intent is
superseded. The second clause is the step lemma: every step from such a state leads to one; the first
says that a quiet state with an outstanding countdown no younger than the last edge is such a state. -/
def Obligations.SpacedEdgesNeverSupersede : Prop :=
  (∀ (s : State) (d : Nat), Invariants s → IntentArmed s → Quiet s → Eager s →
    edgesSpaced d s.inputs →
    (s.engState = .running → s.dtRunning = true → d ≤ s.dtCount.toNat) →
    s.faultArmSupersede = false → SpacedState d s) ∧
  ∀ (s t : State) (d : Nat), SpacedState d s → step s = .next t → ∃ d', SpacedState d' t
end

