-- ==== Sys2Proof/Laws/Decode.lean ====
section
/-! SUPPORT. The fields of a word, and what the decoder can answer. -/

namespace Sys2Proof

@[simp] theorem opField_append (a : BitVec 8) (b : Arg) : opField (a ++ b) = a := by
  apply BitVec.eq_of_toNat_eq
  have := b.isLt
  simp only [opField, BitVec.extractLsb'_toNat, BitVec.toNat_append, Nat.shiftRight_eq_div_pow,
    Nat.shiftLeft_eq]
  rw [← Nat.shiftLeft_eq, ← Nat.shiftLeft_add_eq_or_of_lt this, Nat.shiftLeft_eq]
  omega

@[simp] theorem argField_append (a : BitVec 8) (b : Arg) : argField (a ++ b) = b := by
  apply BitVec.eq_of_toNat_eq
  have := b.isLt
  simp only [argField, BitVec.extractLsb'_toNat, BitVec.toNat_append, Nat.shiftRight_eq_div_pow]
  rw [← Nat.shiftLeft_add_eq_or_of_lt this, Nat.shiftLeft_eq]
  omega

/-- A word is its two fields (R80). -/
theorem opField_append_argField (w : Word) : opField w ++ argField w = w := by
  apply BitVec.eq_of_toNat_eq
  have h1 : (argField w).toNat < 2 ^ 24 := (argField w).isLt
  have h2 := w.isLt
  simp only [BitVec.toNat_append]
  rw [← Nat.shiftLeft_add_eq_or_of_lt h1, Nat.shiftLeft_eq]
  simp only [opField, argField, BitVec.extractLsb'_toNat, Nat.shiftRight_eq_div_pow]
  omega

@[simp] theorem opField_encode (i : Instr) : opField (encode i) = opcode i := by simp [encode]

@[simp] theorem argField_encode (i : Instr) : argField (encode i) = argument i := by simp [encode]

/-- A Format Z opcode selects its command exactly when the low bits are 0 (R80, R85). -/
theorem formatZ_ok_iff (w : Word) (i j : Instr) :
    formatZ w i = .ok j ↔ argField w = 0 ∧ i = j := by
  unfold formatZ
  split <;> simp_all

end Sys2Proof
end

