-- ==== Sys2Proof/Laws/State.lean ====
section
/-! SUPPORT. One lemma per field for each whole-state update: the field's value after it. -/

namespace Sys2Proof.Machine

/-! ### `takeDraw` -/

@[simp] theorem State.takeDraw_ecConfigured (s : State) :
    s.takeDraw.ecConfigured = s.ecConfigured := rfl
@[simp] theorem State.takeDraw_ecGlitchNs (s : State) : s.takeDraw.ecGlitchNs = s.ecGlitchNs := rfl
@[simp] theorem State.takeDraw_ecCount (s : State) : s.takeDraw.ecCount = s.ecCount := rfl
@[simp] theorem State.takeDraw_wpFlipValid (s : State) :
    s.takeDraw.wpFlipValid = s.wpFlipValid := rfl
@[simp] theorem State.takeDraw_wpFlipVal (s : State) : s.takeDraw.wpFlipVal = s.wpFlipVal := rfl
@[simp] theorem State.takeDraw_wpFullValid (s : State) :
    s.takeDraw.wpFullValid = s.wpFullValid := rfl
@[simp] theorem State.takeDraw_evtFlipPending (s : State) :
    s.takeDraw.evtFlipPending = s.evtFlipPending := rfl
@[simp] theorem State.takeDraw_evtFlipVal (s : State) : s.takeDraw.evtFlipVal = s.evtFlipVal := rfl
@[simp] theorem State.takeDraw_evtFullPending (s : State) :
    s.takeDraw.evtFullPending = s.evtFullPending := rfl
@[simp] theorem State.takeDraw_dtConfigured (s : State) :
    s.takeDraw.dtConfigured = s.dtConfigured := rfl
@[simp] theorem State.takeDraw_dtRunning (s : State) : s.takeDraw.dtRunning = s.dtRunning := rfl
@[simp] theorem State.takeDraw_dtCount (s : State) : s.takeDraw.dtCount = s.dtCount := rfl
@[simp] theorem State.takeDraw_dtEvtPending (s : State) :
    s.takeDraw.dtEvtPending = s.dtEvtPending := rfl
@[simp] theorem State.takeDraw_engState (s : State) : s.takeDraw.engState = s.engState := rfl
@[simp] theorem State.takeDraw_activeThreshold (s : State) :
    s.takeDraw.activeThreshold = s.activeThreshold := rfl
@[simp] theorem State.takeDraw_pendingValid (s : State) :
    s.takeDraw.pendingValid = s.pendingValid := rfl
@[simp] theorem State.takeDraw_pendingThreshold (s : State) :
    s.takeDraw.pendingThreshold = s.pendingThreshold := rfl
@[simp] theorem State.takeDraw_lastApplyResult (s : State) :
    s.takeDraw.lastApplyResult = s.lastApplyResult := rfl
@[simp] theorem State.takeDraw_applyEventPending (s : State) :
    s.takeDraw.applyEventPending = s.applyEventPending := rfl
@[simp] theorem State.takeDraw_pol (s : State) : s.takeDraw.pol = s.pol := rfl
@[simp] theorem State.takeDraw_out (s : State) : s.takeDraw.out = s.out := rfl
@[simp] theorem State.takeDraw_now (s : State) : s.takeDraw.now = s.now := rfl
@[simp] theorem State.takeDraw_prevFullTs (s : State) : s.takeDraw.prevFullTs = s.prevFullTs := rfl
@[simp] theorem State.takeDraw_prevFullValid (s : State) :
    s.takeDraw.prevFullValid = s.prevFullValid := rfl
@[simp] theorem State.takeDraw_triggerCount (s : State) :
    s.takeDraw.triggerCount = s.triggerCount := rfl
@[simp] theorem State.takeDraw_cycleCount (s : State) : s.takeDraw.cycleCount = s.cycleCount := rfl
@[simp] theorem State.takeDraw_lastCycleTimeUs (s : State) :
    s.takeDraw.lastCycleTimeUs = s.lastCycleTimeUs := rfl
@[simp] theorem State.takeDraw_lastCycleValid (s : State) :
    s.takeDraw.lastCycleValid = s.lastCycleValid := rfl
@[simp] theorem State.takeDraw_faultWpOverrun (s : State) :
    s.takeDraw.faultWpOverrun = s.faultWpOverrun := rfl
@[simp] theorem State.takeDraw_faultArmSupersede (s : State) :
    s.takeDraw.faultArmSupersede = s.faultArmSupersede := rfl
@[simp] theorem State.takeDraw_faultFlipUnrestored (s : State) :
    s.takeDraw.faultFlipUnrestored = s.faultFlipUnrestored := rfl
@[simp] theorem State.takeDraw_respStatus (s : State) : s.takeDraw.respStatus = s.respStatus := rfl
@[simp] theorem State.takeDraw_respData (s : State) : s.takeDraw.respData = s.respData := rfl
@[simp] theorem State.takeDraw_inputs (s : State) : s.takeDraw.inputs = s.inputs := rfl
@[simp] theorem State.takeDraw_draws (s : State) : s.takeDraw.draws = s.draws.tail := rfl
@[simp] theorem State.takeDraw_drawCount (s : State) : s.takeDraw.drawCount = s.drawCount + 1 := rfl
@[simp] theorem State.takeDraw_deferrals (s : State) : s.takeDraw.deferrals = s.deferrals := rfl

/-! ### `respond` -/

@[simp] theorem respond_ecConfigured (st : Status) (d : Word) (s : State) :
    (respond st d s).ecConfigured = s.ecConfigured := rfl
@[simp] theorem respond_ecGlitchNs (st : Status) (d : Word) (s : State) :
    (respond st d s).ecGlitchNs = s.ecGlitchNs := rfl
@[simp] theorem respond_ecCount (st : Status) (d : Word) (s : State) :
    (respond st d s).ecCount = s.ecCount := rfl
@[simp] theorem respond_wpFlipValid (st : Status) (d : Word) (s : State) :
    (respond st d s).wpFlipValid = s.wpFlipValid := rfl
@[simp] theorem respond_wpFlipVal (st : Status) (d : Word) (s : State) :
    (respond st d s).wpFlipVal = s.wpFlipVal := rfl
@[simp] theorem respond_wpFullValid (st : Status) (d : Word) (s : State) :
    (respond st d s).wpFullValid = s.wpFullValid := rfl
@[simp] theorem respond_evtFlipPending (st : Status) (d : Word) (s : State) :
    (respond st d s).evtFlipPending = s.evtFlipPending := rfl
@[simp] theorem respond_evtFlipVal (st : Status) (d : Word) (s : State) :
    (respond st d s).evtFlipVal = s.evtFlipVal := rfl
@[simp] theorem respond_evtFullPending (st : Status) (d : Word) (s : State) :
    (respond st d s).evtFullPending = s.evtFullPending := rfl
@[simp] theorem respond_dtConfigured (st : Status) (d : Word) (s : State) :
    (respond st d s).dtConfigured = s.dtConfigured := rfl
@[simp] theorem respond_dtRunning (st : Status) (d : Word) (s : State) :
    (respond st d s).dtRunning = s.dtRunning := rfl
@[simp] theorem respond_dtCount (st : Status) (d : Word) (s : State) :
    (respond st d s).dtCount = s.dtCount := rfl
@[simp] theorem respond_dtEvtPending (st : Status) (d : Word) (s : State) :
    (respond st d s).dtEvtPending = s.dtEvtPending := rfl
@[simp] theorem respond_engState (st : Status) (d : Word) (s : State) :
    (respond st d s).engState = s.engState := rfl
@[simp] theorem respond_activeThreshold (st : Status) (d : Word) (s : State) :
    (respond st d s).activeThreshold = s.activeThreshold := rfl
@[simp] theorem respond_pendingValid (st : Status) (d : Word) (s : State) :
    (respond st d s).pendingValid = s.pendingValid := rfl
@[simp] theorem respond_pendingThreshold (st : Status) (d : Word) (s : State) :
    (respond st d s).pendingThreshold = s.pendingThreshold := rfl
@[simp] theorem respond_lastApplyResult (st : Status) (d : Word) (s : State) :
    (respond st d s).lastApplyResult = s.lastApplyResult := rfl
@[simp] theorem respond_applyEventPending (st : Status) (d : Word) (s : State) :
    (respond st d s).applyEventPending = s.applyEventPending := rfl
@[simp] theorem respond_pol (st : Status) (d : Word) (s : State) :
    (respond st d s).pol = s.pol := rfl
@[simp] theorem respond_out (st : Status) (d : Word) (s : State) :
    (respond st d s).out = s.out := rfl
@[simp] theorem respond_now (st : Status) (d : Word) (s : State) :
    (respond st d s).now = s.now := rfl
@[simp] theorem respond_prevFullTs (st : Status) (d : Word) (s : State) :
    (respond st d s).prevFullTs = s.prevFullTs := rfl
@[simp] theorem respond_prevFullValid (st : Status) (d : Word) (s : State) :
    (respond st d s).prevFullValid = s.prevFullValid := rfl
@[simp] theorem respond_triggerCount (st : Status) (d : Word) (s : State) :
    (respond st d s).triggerCount = s.triggerCount := rfl
@[simp] theorem respond_cycleCount (st : Status) (d : Word) (s : State) :
    (respond st d s).cycleCount = s.cycleCount := rfl
@[simp] theorem respond_lastCycleTimeUs (st : Status) (d : Word) (s : State) :
    (respond st d s).lastCycleTimeUs = s.lastCycleTimeUs := rfl
@[simp] theorem respond_lastCycleValid (st : Status) (d : Word) (s : State) :
    (respond st d s).lastCycleValid = s.lastCycleValid := rfl
@[simp] theorem respond_faultWpOverrun (st : Status) (d : Word) (s : State) :
    (respond st d s).faultWpOverrun = s.faultWpOverrun := rfl
@[simp] theorem respond_faultArmSupersede (st : Status) (d : Word) (s : State) :
    (respond st d s).faultArmSupersede = s.faultArmSupersede := rfl
@[simp] theorem respond_faultFlipUnrestored (st : Status) (d : Word) (s : State) :
    (respond st d s).faultFlipUnrestored = s.faultFlipUnrestored := rfl
@[simp] theorem respond_respStatus (st : Status) (d : Word) (s : State) :
    (respond st d s).respStatus = st := rfl
@[simp] theorem respond_respData (st : Status) (d : Word) (s : State) :
    (respond st d s).respData = d := rfl
@[simp] theorem respond_inputs (st : Status) (d : Word) (s : State) :
    (respond st d s).inputs = s.inputs := rfl
@[simp] theorem respond_draws (st : Status) (d : Word) (s : State) :
    (respond st d s).draws = s.draws := rfl
@[simp] theorem respond_drawCount (st : Status) (d : Word) (s : State) :
    (respond st d s).drawCount = s.drawCount := rfl
@[simp] theorem respond_deferrals (st : Status) (d : Word) (s : State) :
    (respond st d s).deferrals = s.deferrals := rfl

/-! ### `postFlip` -/

@[simp] theorem postFlip_ecConfigured (c : Count) (s : State) :
    (postFlip c s).ecConfigured = s.ecConfigured := rfl
@[simp] theorem postFlip_ecGlitchNs (c : Count) (s : State) :
    (postFlip c s).ecGlitchNs = s.ecGlitchNs := rfl
@[simp] theorem postFlip_ecCount (c : Count) (s : State) : (postFlip c s).ecCount = s.ecCount := rfl
@[simp] theorem postFlip_wpFlipValid (c : Count) (s : State) :
    (postFlip c s).wpFlipValid = s.wpFlipValid := rfl
@[simp] theorem postFlip_wpFlipVal (c : Count) (s : State) :
    (postFlip c s).wpFlipVal = s.wpFlipVal := rfl
@[simp] theorem postFlip_wpFullValid (c : Count) (s : State) :
    (postFlip c s).wpFullValid = s.wpFullValid := rfl
@[simp] theorem postFlip_evtFlipPending (c : Count) (s : State) :
    (postFlip c s).evtFlipPending = true := rfl
@[simp] theorem postFlip_evtFlipVal (c : Count) (s : State) : (postFlip c s).evtFlipVal = c := rfl
@[simp] theorem postFlip_evtFullPending (c : Count) (s : State) :
    (postFlip c s).evtFullPending = s.evtFullPending := rfl
@[simp] theorem postFlip_dtConfigured (c : Count) (s : State) :
    (postFlip c s).dtConfigured = s.dtConfigured := rfl
@[simp] theorem postFlip_dtRunning (c : Count) (s : State) :
    (postFlip c s).dtRunning = s.dtRunning := rfl
@[simp] theorem postFlip_dtCount (c : Count) (s : State) : (postFlip c s).dtCount = s.dtCount := rfl
@[simp] theorem postFlip_dtEvtPending (c : Count) (s : State) :
    (postFlip c s).dtEvtPending = s.dtEvtPending := rfl
@[simp] theorem postFlip_engState (c : Count) (s : State) :
    (postFlip c s).engState = s.engState := rfl
@[simp] theorem postFlip_activeThreshold (c : Count) (s : State) :
    (postFlip c s).activeThreshold = s.activeThreshold := rfl
@[simp] theorem postFlip_pendingValid (c : Count) (s : State) :
    (postFlip c s).pendingValid = s.pendingValid := rfl
@[simp] theorem postFlip_pendingThreshold (c : Count) (s : State) :
    (postFlip c s).pendingThreshold = s.pendingThreshold := rfl
@[simp] theorem postFlip_lastApplyResult (c : Count) (s : State) :
    (postFlip c s).lastApplyResult = s.lastApplyResult := rfl
@[simp] theorem postFlip_applyEventPending (c : Count) (s : State) :
    (postFlip c s).applyEventPending = s.applyEventPending := rfl
@[simp] theorem postFlip_pol (c : Count) (s : State) : (postFlip c s).pol = s.pol := rfl
@[simp] theorem postFlip_out (c : Count) (s : State) : (postFlip c s).out = s.out := rfl
@[simp] theorem postFlip_now (c : Count) (s : State) : (postFlip c s).now = s.now := rfl
@[simp] theorem postFlip_prevFullTs (c : Count) (s : State) :
    (postFlip c s).prevFullTs = s.prevFullTs := rfl
@[simp] theorem postFlip_prevFullValid (c : Count) (s : State) :
    (postFlip c s).prevFullValid = s.prevFullValid := rfl
@[simp] theorem postFlip_triggerCount (c : Count) (s : State) :
    (postFlip c s).triggerCount = s.triggerCount := rfl
@[simp] theorem postFlip_cycleCount (c : Count) (s : State) :
    (postFlip c s).cycleCount = s.cycleCount := rfl
@[simp] theorem postFlip_lastCycleTimeUs (c : Count) (s : State) :
    (postFlip c s).lastCycleTimeUs = s.lastCycleTimeUs := rfl
@[simp] theorem postFlip_lastCycleValid (c : Count) (s : State) :
    (postFlip c s).lastCycleValid = s.lastCycleValid := rfl
@[simp] theorem postFlip_faultWpOverrun (c : Count) (s : State) :
    (postFlip c s).faultWpOverrun = (s.faultWpOverrun || s.evtFlipPending) := rfl
@[simp] theorem postFlip_faultArmSupersede (c : Count) (s : State) :
    (postFlip c s).faultArmSupersede = s.faultArmSupersede := rfl
@[simp] theorem postFlip_faultFlipUnrestored (c : Count) (s : State) :
    (postFlip c s).faultFlipUnrestored = s.faultFlipUnrestored := rfl
@[simp] theorem postFlip_respStatus (c : Count) (s : State) :
    (postFlip c s).respStatus = s.respStatus := rfl
@[simp] theorem postFlip_respData (c : Count) (s : State) :
    (postFlip c s).respData = s.respData := rfl
@[simp] theorem postFlip_inputs (c : Count) (s : State) : (postFlip c s).inputs = s.inputs := rfl
@[simp] theorem postFlip_draws (c : Count) (s : State) : (postFlip c s).draws = s.draws := rfl
@[simp] theorem postFlip_drawCount (c : Count) (s : State) :
    (postFlip c s).drawCount = s.drawCount := rfl
@[simp] theorem postFlip_deferrals (c : Count) (s : State) :
    (postFlip c s).deferrals = s.deferrals := rfl

/-! ### `postFull` -/

@[simp] theorem postFull_ecConfigured (s : State) :
    (postFull s).ecConfigured = s.ecConfigured := rfl
@[simp] theorem postFull_ecGlitchNs (s : State) : (postFull s).ecGlitchNs = s.ecGlitchNs := rfl
@[simp] theorem postFull_ecCount (s : State) : (postFull s).ecCount = s.ecCount := rfl
@[simp] theorem postFull_wpFlipValid (s : State) : (postFull s).wpFlipValid = s.wpFlipValid := rfl
@[simp] theorem postFull_wpFlipVal (s : State) : (postFull s).wpFlipVal = s.wpFlipVal := rfl
@[simp] theorem postFull_wpFullValid (s : State) : (postFull s).wpFullValid = s.wpFullValid := rfl
@[simp] theorem postFull_evtFlipPending (s : State) :
    (postFull s).evtFlipPending = s.evtFlipPending := rfl
@[simp] theorem postFull_evtFlipVal (s : State) : (postFull s).evtFlipVal = s.evtFlipVal := rfl
@[simp] theorem postFull_evtFullPending (s : State) : (postFull s).evtFullPending = true := rfl
@[simp] theorem postFull_dtConfigured (s : State) :
    (postFull s).dtConfigured = s.dtConfigured := rfl
@[simp] theorem postFull_dtRunning (s : State) : (postFull s).dtRunning = s.dtRunning := rfl
@[simp] theorem postFull_dtCount (s : State) : (postFull s).dtCount = s.dtCount := rfl
@[simp] theorem postFull_dtEvtPending (s : State) :
    (postFull s).dtEvtPending = s.dtEvtPending := rfl
@[simp] theorem postFull_engState (s : State) : (postFull s).engState = s.engState := rfl
@[simp] theorem postFull_activeThreshold (s : State) :
    (postFull s).activeThreshold = s.activeThreshold := rfl
@[simp] theorem postFull_pendingValid (s : State) :
    (postFull s).pendingValid = s.pendingValid := rfl
@[simp] theorem postFull_pendingThreshold (s : State) :
    (postFull s).pendingThreshold = s.pendingThreshold := rfl
@[simp] theorem postFull_lastApplyResult (s : State) :
    (postFull s).lastApplyResult = s.lastApplyResult := rfl
@[simp] theorem postFull_applyEventPending (s : State) :
    (postFull s).applyEventPending = s.applyEventPending := rfl
@[simp] theorem postFull_pol (s : State) : (postFull s).pol = s.pol := rfl
@[simp] theorem postFull_out (s : State) : (postFull s).out = s.out := rfl
@[simp] theorem postFull_now (s : State) : (postFull s).now = s.now := rfl
@[simp] theorem postFull_prevFullTs (s : State) : (postFull s).prevFullTs = s.prevFullTs := rfl
@[simp] theorem postFull_prevFullValid (s : State) :
    (postFull s).prevFullValid = s.prevFullValid := rfl
@[simp] theorem postFull_triggerCount (s : State) :
    (postFull s).triggerCount = s.triggerCount := rfl
@[simp] theorem postFull_cycleCount (s : State) : (postFull s).cycleCount = s.cycleCount := rfl
@[simp] theorem postFull_lastCycleTimeUs (s : State) :
    (postFull s).lastCycleTimeUs = s.lastCycleTimeUs := rfl
@[simp] theorem postFull_lastCycleValid (s : State) :
    (postFull s).lastCycleValid = s.lastCycleValid := rfl
@[simp] theorem postFull_faultWpOverrun (s : State) :
    (postFull s).faultWpOverrun = (s.faultWpOverrun || s.evtFullPending) := rfl
@[simp] theorem postFull_faultArmSupersede (s : State) :
    (postFull s).faultArmSupersede = s.faultArmSupersede := rfl
@[simp] theorem postFull_faultFlipUnrestored (s : State) :
    (postFull s).faultFlipUnrestored = s.faultFlipUnrestored := rfl
@[simp] theorem postFull_respStatus (s : State) : (postFull s).respStatus = s.respStatus := rfl
@[simp] theorem postFull_respData (s : State) : (postFull s).respData = s.respData := rfl
@[simp] theorem postFull_inputs (s : State) : (postFull s).inputs = s.inputs := rfl
@[simp] theorem postFull_draws (s : State) : (postFull s).draws = s.draws := rfl
@[simp] theorem postFull_drawCount (s : State) : (postFull s).drawCount = s.drawCount := rfl
@[simp] theorem postFull_deferrals (s : State) : (postFull s).deferrals = s.deferrals := rfl

/-! ### `postExpiry` -/

@[simp] theorem postExpiry_ecConfigured (s : State) :
    (postExpiry s).ecConfigured = s.ecConfigured := rfl
@[simp] theorem postExpiry_ecGlitchNs (s : State) : (postExpiry s).ecGlitchNs = s.ecGlitchNs := rfl
@[simp] theorem postExpiry_ecCount (s : State) : (postExpiry s).ecCount = s.ecCount := rfl
@[simp] theorem postExpiry_wpFlipValid (s : State) :
    (postExpiry s).wpFlipValid = s.wpFlipValid := rfl
@[simp] theorem postExpiry_wpFlipVal (s : State) : (postExpiry s).wpFlipVal = s.wpFlipVal := rfl
@[simp] theorem postExpiry_wpFullValid (s : State) :
    (postExpiry s).wpFullValid = s.wpFullValid := rfl
@[simp] theorem postExpiry_evtFlipPending (s : State) :
    (postExpiry s).evtFlipPending = s.evtFlipPending := rfl
@[simp] theorem postExpiry_evtFlipVal (s : State) : (postExpiry s).evtFlipVal = s.evtFlipVal := rfl
@[simp] theorem postExpiry_evtFullPending (s : State) :
    (postExpiry s).evtFullPending = s.evtFullPending := rfl
@[simp] theorem postExpiry_dtConfigured (s : State) :
    (postExpiry s).dtConfigured = s.dtConfigured := rfl
@[simp] theorem postExpiry_dtRunning (s : State) : (postExpiry s).dtRunning = s.dtRunning := rfl
@[simp] theorem postExpiry_dtCount (s : State) : (postExpiry s).dtCount = s.dtCount := rfl
@[simp] theorem postExpiry_dtEvtPending (s : State) : (postExpiry s).dtEvtPending = true := rfl
@[simp] theorem postExpiry_engState (s : State) : (postExpiry s).engState = s.engState := rfl
@[simp] theorem postExpiry_activeThreshold (s : State) :
    (postExpiry s).activeThreshold = s.activeThreshold := rfl
@[simp] theorem postExpiry_pendingValid (s : State) :
    (postExpiry s).pendingValid = s.pendingValid := rfl
@[simp] theorem postExpiry_pendingThreshold (s : State) :
    (postExpiry s).pendingThreshold = s.pendingThreshold := rfl
@[simp] theorem postExpiry_lastApplyResult (s : State) :
    (postExpiry s).lastApplyResult = s.lastApplyResult := rfl
@[simp] theorem postExpiry_applyEventPending (s : State) :
    (postExpiry s).applyEventPending = s.applyEventPending := rfl
@[simp] theorem postExpiry_pol (s : State) : (postExpiry s).pol = s.pol := rfl
@[simp] theorem postExpiry_out (s : State) : (postExpiry s).out = s.out := rfl
@[simp] theorem postExpiry_now (s : State) : (postExpiry s).now = s.now := rfl
@[simp] theorem postExpiry_prevFullTs (s : State) : (postExpiry s).prevFullTs = s.prevFullTs := rfl
@[simp] theorem postExpiry_prevFullValid (s : State) :
    (postExpiry s).prevFullValid = s.prevFullValid := rfl
@[simp] theorem postExpiry_triggerCount (s : State) :
    (postExpiry s).triggerCount = s.triggerCount := rfl
@[simp] theorem postExpiry_cycleCount (s : State) : (postExpiry s).cycleCount = s.cycleCount := rfl
@[simp] theorem postExpiry_lastCycleTimeUs (s : State) :
    (postExpiry s).lastCycleTimeUs = s.lastCycleTimeUs := rfl
@[simp] theorem postExpiry_lastCycleValid (s : State) :
    (postExpiry s).lastCycleValid = s.lastCycleValid := rfl
@[simp] theorem postExpiry_faultWpOverrun (s : State) :
    (postExpiry s).faultWpOverrun = s.faultWpOverrun := rfl
@[simp] theorem postExpiry_faultArmSupersede (s : State) :
    (postExpiry s).faultArmSupersede = s.faultArmSupersede := rfl
@[simp] theorem postExpiry_faultFlipUnrestored (s : State) :
    (postExpiry s).faultFlipUnrestored = s.faultFlipUnrestored := rfl
@[simp] theorem postExpiry_respStatus (s : State) : (postExpiry s).respStatus = s.respStatus := rfl
@[simp] theorem postExpiry_respData (s : State) : (postExpiry s).respData = s.respData := rfl
@[simp] theorem postExpiry_inputs (s : State) : (postExpiry s).inputs = s.inputs := rfl
@[simp] theorem postExpiry_draws (s : State) : (postExpiry s).draws = s.draws := rfl
@[simp] theorem postExpiry_drawCount (s : State) : (postExpiry s).drawCount = s.drawCount := rfl
@[simp] theorem postExpiry_deferrals (s : State) : (postExpiry s).deferrals = s.deferrals := rfl

/-! ### `enterExpiry` -/

@[simp] theorem enterExpiry_ecConfigured (s : State) :
    (enterExpiry s).ecConfigured = s.ecConfigured := rfl
@[simp] theorem enterExpiry_ecGlitchNs (s : State) :
    (enterExpiry s).ecGlitchNs = s.ecGlitchNs := rfl
@[simp] theorem enterExpiry_ecCount (s : State) : (enterExpiry s).ecCount = s.ecCount := rfl
@[simp] theorem enterExpiry_wpFlipValid (s : State) :
    (enterExpiry s).wpFlipValid = s.wpFlipValid := rfl
@[simp] theorem enterExpiry_wpFlipVal (s : State) : (enterExpiry s).wpFlipVal = s.wpFlipVal := rfl
@[simp] theorem enterExpiry_wpFullValid (s : State) :
    (enterExpiry s).wpFullValid = s.wpFullValid := rfl
@[simp] theorem enterExpiry_evtFlipPending (s : State) :
    (enterExpiry s).evtFlipPending = s.evtFlipPending := rfl
@[simp] theorem enterExpiry_evtFlipVal (s : State) :
    (enterExpiry s).evtFlipVal = s.evtFlipVal := rfl
@[simp] theorem enterExpiry_evtFullPending (s : State) :
    (enterExpiry s).evtFullPending = s.evtFullPending := rfl
@[simp] theorem enterExpiry_dtConfigured (s : State) :
    (enterExpiry s).dtConfigured = s.dtConfigured := rfl
@[simp] theorem enterExpiry_dtRunning (s : State) : (enterExpiry s).dtRunning = s.dtRunning := rfl
@[simp] theorem enterExpiry_dtCount (s : State) : (enterExpiry s).dtCount = s.dtCount := rfl
@[simp] theorem enterExpiry_dtEvtPending (s : State) : (enterExpiry s).dtEvtPending = false := rfl
@[simp] theorem enterExpiry_engState (s : State) : (enterExpiry s).engState = s.engState := rfl
@[simp] theorem enterExpiry_activeThreshold (s : State) :
    (enterExpiry s).activeThreshold = s.activeThreshold := rfl
@[simp] theorem enterExpiry_pendingValid (s : State) :
    (enterExpiry s).pendingValid = s.pendingValid := rfl
@[simp] theorem enterExpiry_pendingThreshold (s : State) :
    (enterExpiry s).pendingThreshold = s.pendingThreshold := rfl
@[simp] theorem enterExpiry_lastApplyResult (s : State) :
    (enterExpiry s).lastApplyResult = s.lastApplyResult := rfl
@[simp] theorem enterExpiry_applyEventPending (s : State) :
    (enterExpiry s).applyEventPending = s.applyEventPending := rfl
@[simp] theorem enterExpiry_pol (s : State) : (enterExpiry s).pol = s.pol := rfl
@[simp] theorem enterExpiry_out (s : State) : (enterExpiry s).out = s.out := rfl
@[simp] theorem enterExpiry_now (s : State) : (enterExpiry s).now = s.now := rfl
@[simp] theorem enterExpiry_prevFullTs (s : State) :
    (enterExpiry s).prevFullTs = s.prevFullTs := rfl
@[simp] theorem enterExpiry_prevFullValid (s : State) :
    (enterExpiry s).prevFullValid = s.prevFullValid := rfl
@[simp] theorem enterExpiry_triggerCount (s : State) :
    (enterExpiry s).triggerCount = s.triggerCount := rfl
@[simp] theorem enterExpiry_cycleCount (s : State) :
    (enterExpiry s).cycleCount = s.cycleCount := rfl
@[simp] theorem enterExpiry_lastCycleTimeUs (s : State) :
    (enterExpiry s).lastCycleTimeUs = s.lastCycleTimeUs := rfl
@[simp] theorem enterExpiry_lastCycleValid (s : State) :
    (enterExpiry s).lastCycleValid = s.lastCycleValid := rfl
@[simp] theorem enterExpiry_faultWpOverrun (s : State) :
    (enterExpiry s).faultWpOverrun = s.faultWpOverrun := rfl
@[simp] theorem enterExpiry_faultArmSupersede (s : State) :
    (enterExpiry s).faultArmSupersede = s.faultArmSupersede := rfl
@[simp] theorem enterExpiry_faultFlipUnrestored (s : State) :
    (enterExpiry s).faultFlipUnrestored = s.faultFlipUnrestored := rfl
@[simp] theorem enterExpiry_respStatus (s : State) :
    (enterExpiry s).respStatus = s.respStatus := rfl
@[simp] theorem enterExpiry_respData (s : State) : (enterExpiry s).respData = s.respData := rfl
@[simp] theorem enterExpiry_inputs (s : State) : (enterExpiry s).inputs = s.inputs := rfl
@[simp] theorem enterExpiry_draws (s : State) : (enterExpiry s).draws = s.draws := rfl
@[simp] theorem enterExpiry_drawCount (s : State) : (enterExpiry s).drawCount = s.drawCount := rfl
@[simp] theorem enterExpiry_deferrals (s : State) : (enterExpiry s).deferrals = s.deferrals := rfl

/-! ### `countTrigger` -/

@[simp] theorem countTrigger_ecConfigured (s : State) :
    (countTrigger s).ecConfigured = s.ecConfigured := rfl
@[simp] theorem countTrigger_ecGlitchNs (s : State) :
    (countTrigger s).ecGlitchNs = s.ecGlitchNs := rfl
@[simp] theorem countTrigger_ecCount (s : State) : (countTrigger s).ecCount = s.ecCount := rfl
@[simp] theorem countTrigger_wpFlipValid (s : State) :
    (countTrigger s).wpFlipValid = s.wpFlipValid := rfl
@[simp] theorem countTrigger_wpFlipVal (s : State) : (countTrigger s).wpFlipVal = s.wpFlipVal := rfl
@[simp] theorem countTrigger_wpFullValid (s : State) :
    (countTrigger s).wpFullValid = s.wpFullValid := rfl
@[simp] theorem countTrigger_evtFlipPending (s : State) :
    (countTrigger s).evtFlipPending = s.evtFlipPending := rfl
@[simp] theorem countTrigger_evtFlipVal (s : State) :
    (countTrigger s).evtFlipVal = s.evtFlipVal := rfl
@[simp] theorem countTrigger_evtFullPending (s : State) :
    (countTrigger s).evtFullPending = s.evtFullPending := rfl
@[simp] theorem countTrigger_dtConfigured (s : State) :
    (countTrigger s).dtConfigured = s.dtConfigured := rfl
@[simp] theorem countTrigger_dtRunning (s : State) : (countTrigger s).dtRunning = s.dtRunning := rfl
@[simp] theorem countTrigger_dtCount (s : State) : (countTrigger s).dtCount = s.dtCount := rfl
@[simp] theorem countTrigger_dtEvtPending (s : State) :
    (countTrigger s).dtEvtPending = s.dtEvtPending := rfl
@[simp] theorem countTrigger_engState (s : State) : (countTrigger s).engState = s.engState := rfl
@[simp] theorem countTrigger_activeThreshold (s : State) :
    (countTrigger s).activeThreshold = s.activeThreshold := rfl
@[simp] theorem countTrigger_pendingValid (s : State) :
    (countTrigger s).pendingValid = s.pendingValid := rfl
@[simp] theorem countTrigger_pendingThreshold (s : State) :
    (countTrigger s).pendingThreshold = s.pendingThreshold := rfl
@[simp] theorem countTrigger_lastApplyResult (s : State) :
    (countTrigger s).lastApplyResult = s.lastApplyResult := rfl
@[simp] theorem countTrigger_applyEventPending (s : State) :
    (countTrigger s).applyEventPending = s.applyEventPending := rfl
@[simp] theorem countTrigger_pol (s : State) : (countTrigger s).pol = s.pol := rfl
@[simp] theorem countTrigger_out (s : State) : (countTrigger s).out = s.out := rfl
@[simp] theorem countTrigger_now (s : State) : (countTrigger s).now = s.now := rfl
@[simp] theorem countTrigger_prevFullTs (s : State) :
    (countTrigger s).prevFullTs = s.prevFullTs := rfl
@[simp] theorem countTrigger_prevFullValid (s : State) :
    (countTrigger s).prevFullValid = s.prevFullValid := rfl
@[simp] theorem countTrigger_triggerCount (s : State) :
    (countTrigger s).triggerCount = s.triggerCount + 1 := rfl
@[simp] theorem countTrigger_cycleCount (s : State) :
    (countTrigger s).cycleCount = s.cycleCount := rfl
@[simp] theorem countTrigger_lastCycleTimeUs (s : State) :
    (countTrigger s).lastCycleTimeUs = s.lastCycleTimeUs := rfl
@[simp] theorem countTrigger_lastCycleValid (s : State) :
    (countTrigger s).lastCycleValid = s.lastCycleValid := rfl
@[simp] theorem countTrigger_faultWpOverrun (s : State) :
    (countTrigger s).faultWpOverrun = s.faultWpOverrun := rfl
@[simp] theorem countTrigger_faultArmSupersede (s : State) :
    (countTrigger s).faultArmSupersede = s.faultArmSupersede := rfl
@[simp] theorem countTrigger_faultFlipUnrestored (s : State) :
    (countTrigger s).faultFlipUnrestored = s.faultFlipUnrestored := rfl
@[simp] theorem countTrigger_respStatus (s : State) :
    (countTrigger s).respStatus = s.respStatus := rfl
@[simp] theorem countTrigger_respData (s : State) : (countTrigger s).respData = s.respData := rfl
@[simp] theorem countTrigger_inputs (s : State) : (countTrigger s).inputs = s.inputs := rfl
@[simp] theorem countTrigger_draws (s : State) : (countTrigger s).draws = s.draws := rfl
@[simp] theorem countTrigger_drawCount (s : State) : (countTrigger s).drawCount = s.drawCount := rfl
@[simp] theorem countTrigger_deferrals (s : State) : (countTrigger s).deferrals = s.deferrals := rfl

/-! ### `recordCycle` -/

@[simp] theorem recordCycle_ecConfigured (s : State) :
    (recordCycle s).ecConfigured = s.ecConfigured := rfl
@[simp] theorem recordCycle_ecGlitchNs (s : State) :
    (recordCycle s).ecGlitchNs = s.ecGlitchNs := rfl
@[simp] theorem recordCycle_ecCount (s : State) : (recordCycle s).ecCount = s.ecCount := rfl
@[simp] theorem recordCycle_wpFlipValid (s : State) :
    (recordCycle s).wpFlipValid = s.wpFlipValid := rfl
@[simp] theorem recordCycle_wpFlipVal (s : State) : (recordCycle s).wpFlipVal = s.wpFlipVal := rfl
@[simp] theorem recordCycle_wpFullValid (s : State) :
    (recordCycle s).wpFullValid = s.wpFullValid := rfl
@[simp] theorem recordCycle_evtFlipPending (s : State) :
    (recordCycle s).evtFlipPending = s.evtFlipPending := rfl
@[simp] theorem recordCycle_evtFlipVal (s : State) :
    (recordCycle s).evtFlipVal = s.evtFlipVal := rfl
@[simp] theorem recordCycle_evtFullPending (s : State) :
    (recordCycle s).evtFullPending = s.evtFullPending := rfl
@[simp] theorem recordCycle_dtConfigured (s : State) :
    (recordCycle s).dtConfigured = s.dtConfigured := rfl
@[simp] theorem recordCycle_dtRunning (s : State) : (recordCycle s).dtRunning = s.dtRunning := rfl
@[simp] theorem recordCycle_dtCount (s : State) : (recordCycle s).dtCount = s.dtCount := rfl
@[simp] theorem recordCycle_dtEvtPending (s : State) :
    (recordCycle s).dtEvtPending = s.dtEvtPending := rfl
@[simp] theorem recordCycle_engState (s : State) : (recordCycle s).engState = s.engState := rfl
@[simp] theorem recordCycle_activeThreshold (s : State) :
    (recordCycle s).activeThreshold = s.activeThreshold := rfl
@[simp] theorem recordCycle_pendingValid (s : State) :
    (recordCycle s).pendingValid = s.pendingValid := rfl
@[simp] theorem recordCycle_pendingThreshold (s : State) :
    (recordCycle s).pendingThreshold = s.pendingThreshold := rfl
@[simp] theorem recordCycle_lastApplyResult (s : State) :
    (recordCycle s).lastApplyResult = s.lastApplyResult := rfl
@[simp] theorem recordCycle_applyEventPending (s : State) :
    (recordCycle s).applyEventPending = s.applyEventPending := rfl
@[simp] theorem recordCycle_pol (s : State) : (recordCycle s).pol = s.pol := rfl
@[simp] theorem recordCycle_out (s : State) : (recordCycle s).out = s.out := rfl
@[simp] theorem recordCycle_now (s : State) : (recordCycle s).now = s.now := rfl
@[simp] theorem recordCycle_prevFullTs (s : State) : (recordCycle s).prevFullTs = s.now := rfl
@[simp] theorem recordCycle_prevFullValid (s : State) : (recordCycle s).prevFullValid = true := rfl
@[simp] theorem recordCycle_triggerCount (s : State) :
    (recordCycle s).triggerCount = s.triggerCount := rfl
@[simp] theorem recordCycle_cycleCount (s : State) :
    (recordCycle s).cycleCount = s.cycleCount + 1 := rfl
@[simp] theorem recordCycle_lastCycleTimeUs (s : State) :
    (recordCycle s).lastCycleTimeUs = (if s.prevFullValid then cycleTime s.now s.prevFullTs else s.lastCycleTimeUs) := rfl
@[simp] theorem recordCycle_lastCycleValid (s : State) :
    (recordCycle s).lastCycleValid = (s.lastCycleValid || s.prevFullValid) := rfl
@[simp] theorem recordCycle_faultWpOverrun (s : State) :
    (recordCycle s).faultWpOverrun = s.faultWpOverrun := rfl
@[simp] theorem recordCycle_faultArmSupersede (s : State) :
    (recordCycle s).faultArmSupersede = s.faultArmSupersede := rfl
@[simp] theorem recordCycle_faultFlipUnrestored (s : State) :
    (recordCycle s).faultFlipUnrestored = s.faultFlipUnrestored := rfl
@[simp] theorem recordCycle_respStatus (s : State) :
    (recordCycle s).respStatus = s.respStatus := rfl
@[simp] theorem recordCycle_respData (s : State) : (recordCycle s).respData = s.respData := rfl
@[simp] theorem recordCycle_inputs (s : State) : (recordCycle s).inputs = s.inputs := rfl
@[simp] theorem recordCycle_draws (s : State) : (recordCycle s).draws = s.draws := rfl
@[simp] theorem recordCycle_drawCount (s : State) : (recordCycle s).drawCount = s.drawCount := rfl
@[simp] theorem recordCycle_deferrals (s : State) : (recordCycle s).deferrals = s.deferrals := rfl

/-! ### `engFail` -/

@[simp] theorem engFail_ecConfigured (s : State) : (engFail s).ecConfigured = false := rfl
@[simp] theorem engFail_ecGlitchNs (s : State) : (engFail s).ecGlitchNs = s.ecGlitchNs := rfl
@[simp] theorem engFail_ecCount (s : State) : (engFail s).ecCount = 0 := rfl
@[simp] theorem engFail_wpFlipValid (s : State) : (engFail s).wpFlipValid = false := rfl
@[simp] theorem engFail_wpFlipVal (s : State) : (engFail s).wpFlipVal = s.wpFlipVal := rfl
@[simp] theorem engFail_wpFullValid (s : State) : (engFail s).wpFullValid = false := rfl
@[simp] theorem engFail_evtFlipPending (s : State) : (engFail s).evtFlipPending = false := rfl
@[simp] theorem engFail_evtFlipVal (s : State) : (engFail s).evtFlipVal = s.evtFlipVal := rfl
@[simp] theorem engFail_evtFullPending (s : State) : (engFail s).evtFullPending = false := rfl
@[simp] theorem engFail_dtConfigured (s : State) : (engFail s).dtConfigured = false := rfl
@[simp] theorem engFail_dtRunning (s : State) : (engFail s).dtRunning = false := rfl
@[simp] theorem engFail_dtCount (s : State) : (engFail s).dtCount = 0 := rfl
@[simp] theorem engFail_dtEvtPending (s : State) : (engFail s).dtEvtPending = false := rfl
@[simp] theorem engFail_engState (s : State) : (engFail s).engState = .failed := rfl
@[simp] theorem engFail_activeThreshold (s : State) :
    (engFail s).activeThreshold = s.activeThreshold := rfl
@[simp] theorem engFail_pendingValid (s : State) : (engFail s).pendingValid = s.pendingValid := rfl
@[simp] theorem engFail_pendingThreshold (s : State) :
    (engFail s).pendingThreshold = s.pendingThreshold := rfl
@[simp] theorem engFail_lastApplyResult (s : State) :
    (engFail s).lastApplyResult = s.lastApplyResult := rfl
@[simp] theorem engFail_applyEventPending (s : State) :
    (engFail s).applyEventPending = s.applyEventPending := rfl
@[simp] theorem engFail_pol (s : State) : (engFail s).pol = s.pol := rfl
@[simp] theorem engFail_out (s : State) : (engFail s).out = s.out := rfl
@[simp] theorem engFail_now (s : State) : (engFail s).now = s.now := rfl
@[simp] theorem engFail_prevFullTs (s : State) : (engFail s).prevFullTs = s.prevFullTs := rfl
@[simp] theorem engFail_prevFullValid (s : State) :
    (engFail s).prevFullValid = s.prevFullValid := rfl
@[simp] theorem engFail_triggerCount (s : State) : (engFail s).triggerCount = s.triggerCount := rfl
@[simp] theorem engFail_cycleCount (s : State) : (engFail s).cycleCount = s.cycleCount := rfl
@[simp] theorem engFail_lastCycleTimeUs (s : State) :
    (engFail s).lastCycleTimeUs = s.lastCycleTimeUs := rfl
@[simp] theorem engFail_lastCycleValid (s : State) :
    (engFail s).lastCycleValid = s.lastCycleValid := rfl
@[simp] theorem engFail_faultWpOverrun (s : State) :
    (engFail s).faultWpOverrun = s.faultWpOverrun := rfl
@[simp] theorem engFail_faultArmSupersede (s : State) :
    (engFail s).faultArmSupersede = s.faultArmSupersede := rfl
@[simp] theorem engFail_faultFlipUnrestored (s : State) :
    (engFail s).faultFlipUnrestored = s.faultFlipUnrestored := rfl
@[simp] theorem engFail_respStatus (s : State) : (engFail s).respStatus = s.respStatus := rfl
@[simp] theorem engFail_respData (s : State) : (engFail s).respData = s.respData := rfl
@[simp] theorem engFail_inputs (s : State) : (engFail s).inputs = s.inputs := rfl
@[simp] theorem engFail_draws (s : State) : (engFail s).draws = s.draws := rfl
@[simp] theorem engFail_drawCount (s : State) : (engFail s).drawCount = s.drawCount := rfl
@[simp] theorem engFail_deferrals (s : State) : (engFail s).deferrals = s.deferrals := rfl

/-! ### `engRun` -/

@[simp] theorem engRun_ecConfigured (s : State) : (engRun s).ecConfigured = s.ecConfigured := rfl
@[simp] theorem engRun_ecGlitchNs (s : State) : (engRun s).ecGlitchNs = s.ecGlitchNs := rfl
@[simp] theorem engRun_ecCount (s : State) : (engRun s).ecCount = s.ecCount := rfl
@[simp] theorem engRun_wpFlipValid (s : State) : (engRun s).wpFlipValid = s.wpFlipValid := rfl
@[simp] theorem engRun_wpFlipVal (s : State) : (engRun s).wpFlipVal = s.wpFlipVal := rfl
@[simp] theorem engRun_wpFullValid (s : State) : (engRun s).wpFullValid = s.wpFullValid := rfl
@[simp] theorem engRun_evtFlipPending (s : State) :
    (engRun s).evtFlipPending = s.evtFlipPending := rfl
@[simp] theorem engRun_evtFlipVal (s : State) : (engRun s).evtFlipVal = s.evtFlipVal := rfl
@[simp] theorem engRun_evtFullPending (s : State) :
    (engRun s).evtFullPending = s.evtFullPending := rfl
@[simp] theorem engRun_dtConfigured (s : State) : (engRun s).dtConfigured = s.dtConfigured := rfl
@[simp] theorem engRun_dtRunning (s : State) : (engRun s).dtRunning = s.dtRunning := rfl
@[simp] theorem engRun_dtCount (s : State) : (engRun s).dtCount = s.dtCount := rfl
@[simp] theorem engRun_dtEvtPending (s : State) : (engRun s).dtEvtPending = s.dtEvtPending := rfl
@[simp] theorem engRun_engState (s : State) : (engRun s).engState = .running := rfl
@[simp] theorem engRun_activeThreshold (s : State) :
    (engRun s).activeThreshold = s.activeThreshold := rfl
@[simp] theorem engRun_pendingValid (s : State) : (engRun s).pendingValid = false := rfl
@[simp] theorem engRun_pendingThreshold (s : State) :
    (engRun s).pendingThreshold = s.pendingThreshold := rfl
@[simp] theorem engRun_lastApplyResult (s : State) : (engRun s).lastApplyResult = .none := rfl
@[simp] theorem engRun_applyEventPending (s : State) : (engRun s).applyEventPending = false := rfl
@[simp] theorem engRun_pol (s : State) : (engRun s).pol = none := rfl
@[simp] theorem engRun_out (s : State) : (engRun s).out = s.out := rfl
@[simp] theorem engRun_now (s : State) : (engRun s).now = s.now := rfl
@[simp] theorem engRun_prevFullTs (s : State) : (engRun s).prevFullTs = s.prevFullTs := rfl
@[simp] theorem engRun_prevFullValid (s : State) : (engRun s).prevFullValid = false := rfl
@[simp] theorem engRun_triggerCount (s : State) : (engRun s).triggerCount = 0 := rfl
@[simp] theorem engRun_cycleCount (s : State) : (engRun s).cycleCount = 0 := rfl
@[simp] theorem engRun_lastCycleTimeUs (s : State) : (engRun s).lastCycleTimeUs = 0 := rfl
@[simp] theorem engRun_lastCycleValid (s : State) : (engRun s).lastCycleValid = false := rfl
@[simp] theorem engRun_faultWpOverrun (s : State) :
    (engRun s).faultWpOverrun = s.faultWpOverrun := rfl
@[simp] theorem engRun_faultArmSupersede (s : State) :
    (engRun s).faultArmSupersede = s.faultArmSupersede := rfl
@[simp] theorem engRun_faultFlipUnrestored (s : State) :
    (engRun s).faultFlipUnrestored = s.faultFlipUnrestored := rfl
@[simp] theorem engRun_respStatus (s : State) : (engRun s).respStatus = s.respStatus := rfl
@[simp] theorem engRun_respData (s : State) : (engRun s).respData = s.respData := rfl
@[simp] theorem engRun_inputs (s : State) : (engRun s).inputs = s.inputs := rfl
@[simp] theorem engRun_draws (s : State) : (engRun s).draws = s.draws := rfl
@[simp] theorem engRun_drawCount (s : State) : (engRun s).drawCount = s.drawCount := rfl
@[simp] theorem engRun_deferrals (s : State) : (engRun s).deferrals = s.deferrals := rfl

/-! ### `resetStep` -/

@[simp] theorem resetStep_ecConfigured (s : State) :
    (resetStep s).ecConfigured = State.reset.ecConfigured := rfl
@[simp] theorem resetStep_ecGlitchNs (s : State) :
    (resetStep s).ecGlitchNs = State.reset.ecGlitchNs := rfl
@[simp] theorem resetStep_ecCount (s : State) : (resetStep s).ecCount = State.reset.ecCount := rfl
@[simp] theorem resetStep_wpFlipValid (s : State) :
    (resetStep s).wpFlipValid = State.reset.wpFlipValid := rfl
@[simp] theorem resetStep_wpFlipVal (s : State) :
    (resetStep s).wpFlipVal = State.reset.wpFlipVal := rfl
@[simp] theorem resetStep_wpFullValid (s : State) :
    (resetStep s).wpFullValid = State.reset.wpFullValid := rfl
@[simp] theorem resetStep_evtFlipPending (s : State) :
    (resetStep s).evtFlipPending = State.reset.evtFlipPending := rfl
@[simp] theorem resetStep_evtFlipVal (s : State) :
    (resetStep s).evtFlipVal = State.reset.evtFlipVal := rfl
@[simp] theorem resetStep_evtFullPending (s : State) :
    (resetStep s).evtFullPending = State.reset.evtFullPending := rfl
@[simp] theorem resetStep_dtConfigured (s : State) :
    (resetStep s).dtConfigured = State.reset.dtConfigured := rfl
@[simp] theorem resetStep_dtRunning (s : State) :
    (resetStep s).dtRunning = State.reset.dtRunning := rfl
@[simp] theorem resetStep_dtCount (s : State) : (resetStep s).dtCount = State.reset.dtCount := rfl
@[simp] theorem resetStep_dtEvtPending (s : State) :
    (resetStep s).dtEvtPending = State.reset.dtEvtPending := rfl
@[simp] theorem resetStep_engState (s : State) :
    (resetStep s).engState = State.reset.engState := rfl
@[simp] theorem resetStep_activeThreshold (s : State) :
    (resetStep s).activeThreshold = State.reset.activeThreshold := rfl
@[simp] theorem resetStep_pendingValid (s : State) :
    (resetStep s).pendingValid = State.reset.pendingValid := rfl
@[simp] theorem resetStep_pendingThreshold (s : State) :
    (resetStep s).pendingThreshold = State.reset.pendingThreshold := rfl
@[simp] theorem resetStep_lastApplyResult (s : State) :
    (resetStep s).lastApplyResult = State.reset.lastApplyResult := rfl
@[simp] theorem resetStep_applyEventPending (s : State) :
    (resetStep s).applyEventPending = State.reset.applyEventPending := rfl
@[simp] theorem resetStep_pol (s : State) : (resetStep s).pol = State.reset.pol := rfl
@[simp] theorem resetStep_out (s : State) : (resetStep s).out = State.reset.out := rfl
@[simp] theorem resetStep_now (s : State) : (resetStep s).now = s.now := rfl
@[simp] theorem resetStep_prevFullTs (s : State) :
    (resetStep s).prevFullTs = State.reset.prevFullTs := rfl
@[simp] theorem resetStep_prevFullValid (s : State) :
    (resetStep s).prevFullValid = State.reset.prevFullValid := rfl
@[simp] theorem resetStep_triggerCount (s : State) :
    (resetStep s).triggerCount = State.reset.triggerCount := rfl
@[simp] theorem resetStep_cycleCount (s : State) :
    (resetStep s).cycleCount = State.reset.cycleCount := rfl
@[simp] theorem resetStep_lastCycleTimeUs (s : State) :
    (resetStep s).lastCycleTimeUs = State.reset.lastCycleTimeUs := rfl
@[simp] theorem resetStep_lastCycleValid (s : State) :
    (resetStep s).lastCycleValid = State.reset.lastCycleValid := rfl
@[simp] theorem resetStep_faultWpOverrun (s : State) :
    (resetStep s).faultWpOverrun = State.reset.faultWpOverrun := rfl
@[simp] theorem resetStep_faultArmSupersede (s : State) :
    (resetStep s).faultArmSupersede = State.reset.faultArmSupersede := rfl
@[simp] theorem resetStep_faultFlipUnrestored (s : State) :
    (resetStep s).faultFlipUnrestored = State.reset.faultFlipUnrestored := rfl
@[simp] theorem resetStep_respStatus (s : State) :
    (resetStep s).respStatus = State.reset.respStatus := rfl
@[simp] theorem resetStep_respData (s : State) :
    (resetStep s).respData = State.reset.respData := rfl
@[simp] theorem resetStep_inputs (s : State) : (resetStep s).inputs = s.inputs := rfl
@[simp] theorem resetStep_draws (s : State) : (resetStep s).draws = s.draws := rfl
@[simp] theorem resetStep_drawCount (s : State) : (resetStep s).drawCount = s.drawCount := rfl
@[simp] theorem resetStep_deferrals (s : State) : (resetStep s).deferrals = s.deferrals := rfl

/-! ### The schedule: only the environment's own fields change -/

@[simp] theorem spendDeferral_ecConfigured (s : State) : (spendDeferral s).ecConfigured = s.ecConfigured := by
  unfold spendDeferral; split <;> rfl
@[simp] theorem spendDeferral_ecGlitchNs (s : State) : (spendDeferral s).ecGlitchNs = s.ecGlitchNs := by
  unfold spendDeferral; split <;> rfl
@[simp] theorem spendDeferral_ecCount (s : State) : (spendDeferral s).ecCount = s.ecCount := by
  unfold spendDeferral; split <;> rfl
@[simp] theorem spendDeferral_wpFlipValid (s : State) : (spendDeferral s).wpFlipValid = s.wpFlipValid := by
  unfold spendDeferral; split <;> rfl
@[simp] theorem spendDeferral_wpFlipVal (s : State) : (spendDeferral s).wpFlipVal = s.wpFlipVal := by
  unfold spendDeferral; split <;> rfl
@[simp] theorem spendDeferral_wpFullValid (s : State) : (spendDeferral s).wpFullValid = s.wpFullValid := by
  unfold spendDeferral; split <;> rfl
@[simp] theorem spendDeferral_evtFlipPending (s : State) : (spendDeferral s).evtFlipPending = s.evtFlipPending := by
  unfold spendDeferral; split <;> rfl
@[simp] theorem spendDeferral_evtFlipVal (s : State) : (spendDeferral s).evtFlipVal = s.evtFlipVal := by
  unfold spendDeferral; split <;> rfl
@[simp] theorem spendDeferral_evtFullPending (s : State) : (spendDeferral s).evtFullPending = s.evtFullPending := by
  unfold spendDeferral; split <;> rfl
@[simp] theorem spendDeferral_dtConfigured (s : State) : (spendDeferral s).dtConfigured = s.dtConfigured := by
  unfold spendDeferral; split <;> rfl
@[simp] theorem spendDeferral_dtRunning (s : State) : (spendDeferral s).dtRunning = s.dtRunning := by
  unfold spendDeferral; split <;> rfl
@[simp] theorem spendDeferral_dtCount (s : State) : (spendDeferral s).dtCount = s.dtCount := by
  unfold spendDeferral; split <;> rfl
@[simp] theorem spendDeferral_dtEvtPending (s : State) : (spendDeferral s).dtEvtPending = s.dtEvtPending := by
  unfold spendDeferral; split <;> rfl
@[simp] theorem spendDeferral_engState (s : State) : (spendDeferral s).engState = s.engState := by
  unfold spendDeferral; split <;> rfl
@[simp] theorem spendDeferral_activeThreshold (s : State) : (spendDeferral s).activeThreshold = s.activeThreshold := by
  unfold spendDeferral; split <;> rfl
@[simp] theorem spendDeferral_pendingValid (s : State) : (spendDeferral s).pendingValid = s.pendingValid := by
  unfold spendDeferral; split <;> rfl
@[simp] theorem spendDeferral_pendingThreshold (s : State) : (spendDeferral s).pendingThreshold = s.pendingThreshold := by
  unfold spendDeferral; split <;> rfl
@[simp] theorem spendDeferral_lastApplyResult (s : State) : (spendDeferral s).lastApplyResult = s.lastApplyResult := by
  unfold spendDeferral; split <;> rfl
@[simp] theorem spendDeferral_applyEventPending (s : State) : (spendDeferral s).applyEventPending = s.applyEventPending := by
  unfold spendDeferral; split <;> rfl
@[simp] theorem spendDeferral_pol (s : State) : (spendDeferral s).pol = s.pol := by
  unfold spendDeferral; split <;> rfl
@[simp] theorem spendDeferral_out (s : State) : (spendDeferral s).out = s.out := by
  unfold spendDeferral; split <;> rfl
@[simp] theorem spendDeferral_now (s : State) : (spendDeferral s).now = s.now := by
  unfold spendDeferral; split <;> rfl
@[simp] theorem spendDeferral_prevFullTs (s : State) : (spendDeferral s).prevFullTs = s.prevFullTs := by
  unfold spendDeferral; split <;> rfl
@[simp] theorem spendDeferral_prevFullValid (s : State) : (spendDeferral s).prevFullValid = s.prevFullValid := by
  unfold spendDeferral; split <;> rfl
@[simp] theorem spendDeferral_triggerCount (s : State) : (spendDeferral s).triggerCount = s.triggerCount := by
  unfold spendDeferral; split <;> rfl
@[simp] theorem spendDeferral_cycleCount (s : State) : (spendDeferral s).cycleCount = s.cycleCount := by
  unfold spendDeferral; split <;> rfl
@[simp] theorem spendDeferral_lastCycleTimeUs (s : State) : (spendDeferral s).lastCycleTimeUs = s.lastCycleTimeUs := by
  unfold spendDeferral; split <;> rfl
@[simp] theorem spendDeferral_lastCycleValid (s : State) : (spendDeferral s).lastCycleValid = s.lastCycleValid := by
  unfold spendDeferral; split <;> rfl
@[simp] theorem spendDeferral_faultWpOverrun (s : State) : (spendDeferral s).faultWpOverrun = s.faultWpOverrun := by
  unfold spendDeferral; split <;> rfl
@[simp] theorem spendDeferral_faultArmSupersede (s : State) : (spendDeferral s).faultArmSupersede = s.faultArmSupersede := by
  unfold spendDeferral; split <;> rfl
@[simp] theorem spendDeferral_faultFlipUnrestored (s : State) : (spendDeferral s).faultFlipUnrestored = s.faultFlipUnrestored := by
  unfold spendDeferral; split <;> rfl
@[simp] theorem spendDeferral_respStatus (s : State) : (spendDeferral s).respStatus = s.respStatus := by
  unfold spendDeferral; split <;> rfl
@[simp] theorem spendDeferral_respData (s : State) : (spendDeferral s).respData = s.respData := by
  unfold spendDeferral; split <;> rfl
@[simp] theorem spendDeferral_inputs (s : State) : (spendDeferral s).inputs = s.inputs := by
  unfold spendDeferral; split <;> rfl
@[simp] theorem spendDeferral_draws (s : State) : (spendDeferral s).draws = s.draws := by
  unfold spendDeferral; split <;> rfl
@[simp] theorem spendDeferral_drawCount (s : State) : (spendDeferral s).drawCount = s.drawCount := by
  unfold spendDeferral; split <;> rfl
@[simp] theorem consume_ecConfigured (l : Label) (s : State) : (consume l s).ecConfigured = s.ecConfigured := by
  cases l <;> rfl
@[simp] theorem consume_ecGlitchNs (l : Label) (s : State) : (consume l s).ecGlitchNs = s.ecGlitchNs := by
  cases l <;> rfl
@[simp] theorem consume_ecCount (l : Label) (s : State) : (consume l s).ecCount = s.ecCount := by
  cases l <;> rfl
@[simp] theorem consume_wpFlipValid (l : Label) (s : State) : (consume l s).wpFlipValid = s.wpFlipValid := by
  cases l <;> rfl
@[simp] theorem consume_wpFlipVal (l : Label) (s : State) : (consume l s).wpFlipVal = s.wpFlipVal := by
  cases l <;> rfl
@[simp] theorem consume_wpFullValid (l : Label) (s : State) : (consume l s).wpFullValid = s.wpFullValid := by
  cases l <;> rfl
@[simp] theorem consume_evtFlipPending (l : Label) (s : State) : (consume l s).evtFlipPending = s.evtFlipPending := by
  cases l <;> rfl
@[simp] theorem consume_evtFlipVal (l : Label) (s : State) : (consume l s).evtFlipVal = s.evtFlipVal := by
  cases l <;> rfl
@[simp] theorem consume_evtFullPending (l : Label) (s : State) : (consume l s).evtFullPending = s.evtFullPending := by
  cases l <;> rfl
@[simp] theorem consume_dtConfigured (l : Label) (s : State) : (consume l s).dtConfigured = s.dtConfigured := by
  cases l <;> rfl
@[simp] theorem consume_dtRunning (l : Label) (s : State) : (consume l s).dtRunning = s.dtRunning := by
  cases l <;> rfl
@[simp] theorem consume_dtCount (l : Label) (s : State) : (consume l s).dtCount = s.dtCount := by
  cases l <;> rfl
@[simp] theorem consume_dtEvtPending (l : Label) (s : State) : (consume l s).dtEvtPending = s.dtEvtPending := by
  cases l <;> rfl
@[simp] theorem consume_engState (l : Label) (s : State) : (consume l s).engState = s.engState := by
  cases l <;> rfl
@[simp] theorem consume_activeThreshold (l : Label) (s : State) : (consume l s).activeThreshold = s.activeThreshold := by
  cases l <;> rfl
@[simp] theorem consume_pendingValid (l : Label) (s : State) : (consume l s).pendingValid = s.pendingValid := by
  cases l <;> rfl
@[simp] theorem consume_pendingThreshold (l : Label) (s : State) : (consume l s).pendingThreshold = s.pendingThreshold := by
  cases l <;> rfl
@[simp] theorem consume_lastApplyResult (l : Label) (s : State) : (consume l s).lastApplyResult = s.lastApplyResult := by
  cases l <;> rfl
@[simp] theorem consume_applyEventPending (l : Label) (s : State) : (consume l s).applyEventPending = s.applyEventPending := by
  cases l <;> rfl
@[simp] theorem consume_pol (l : Label) (s : State) : (consume l s).pol = s.pol := by
  cases l <;> rfl
@[simp] theorem consume_out (l : Label) (s : State) : (consume l s).out = s.out := by
  cases l <;> rfl
@[simp] theorem consume_now (l : Label) (s : State) : (consume l s).now = s.now := by
  cases l <;> rfl
@[simp] theorem consume_prevFullTs (l : Label) (s : State) : (consume l s).prevFullTs = s.prevFullTs := by
  cases l <;> rfl
@[simp] theorem consume_prevFullValid (l : Label) (s : State) : (consume l s).prevFullValid = s.prevFullValid := by
  cases l <;> rfl
@[simp] theorem consume_triggerCount (l : Label) (s : State) : (consume l s).triggerCount = s.triggerCount := by
  cases l <;> rfl
@[simp] theorem consume_cycleCount (l : Label) (s : State) : (consume l s).cycleCount = s.cycleCount := by
  cases l <;> rfl
@[simp] theorem consume_lastCycleTimeUs (l : Label) (s : State) : (consume l s).lastCycleTimeUs = s.lastCycleTimeUs := by
  cases l <;> rfl
@[simp] theorem consume_lastCycleValid (l : Label) (s : State) : (consume l s).lastCycleValid = s.lastCycleValid := by
  cases l <;> rfl
@[simp] theorem consume_faultWpOverrun (l : Label) (s : State) : (consume l s).faultWpOverrun = s.faultWpOverrun := by
  cases l <;> rfl
@[simp] theorem consume_faultArmSupersede (l : Label) (s : State) : (consume l s).faultArmSupersede = s.faultArmSupersede := by
  cases l <;> rfl
@[simp] theorem consume_faultFlipUnrestored (l : Label) (s : State) : (consume l s).faultFlipUnrestored = s.faultFlipUnrestored := by
  cases l <;> rfl
@[simp] theorem consume_respStatus (l : Label) (s : State) : (consume l s).respStatus = s.respStatus := by
  cases l <;> rfl
@[simp] theorem consume_respData (l : Label) (s : State) : (consume l s).respData = s.respData := by
  cases l <;> rfl
@[simp] theorem consume_draws (l : Label) (s : State) : (consume l s).draws = s.draws := by
  cases l <;> rfl
@[simp] theorem consume_drawCount (l : Label) (s : State) : (consume l s).drawCount = s.drawCount := by
  cases l <;> rfl
@[simp] theorem consume_deferrals (l : Label) (s : State) : (consume l s).deferrals = s.deferrals := by
  cases l <;> rfl

end Sys2Proof.Machine
end

