-- ==== Sys2Proof/Laws/Ops.lean ====
section
/-! SUPPORT. One lemma per shared operation that says once everything it can do. -/

namespace Sys2Proof.Machine

/-! ### Operands -/

theorem watchPoint?_cases (v : Nat) :
    (watchPoint? v = none ∧ (v = 0 ∨ Config.N < v)) ∨
    (∃ h : v < 20, 0 < v ∧ watchPoint? v = some (.flip ⟨v, h⟩)) ∨
    (v = Config.N ∧ watchPoint? v = some .full) := by
  unfold watchPoint? Config.N
  split
  · exact .inl ⟨rfl, .inl ‹_›⟩
  split
  · exact .inr (.inl ⟨‹_›, by omega, rfl⟩)
  split
  · exact .inr (.inr ⟨‹_›, rfl⟩)
  · exact .inl ⟨rfl, .inr (by omega)⟩

theorem watchPoint?_N : watchPoint? Config.N = some .full := rfl

theorem watchPoint?_flip (c : Count) (h : 0 < c.val) : watchPoint? c.val = some (.flip c) := by
  simp [watchPoint?, c.isLt, Nat.pos_iff_ne_zero.mp h]

theorem threshold?_cases (t : Int) :
    (threshold? t = none ∧ (t < 0 ∨ 20 < t)) ∨
    ∃ v : Threshold, threshold? t = some v ∧ (v.val : Int) = t ∧ 0 ≤ t ∧ t ≤ 20 := by
  unfold threshold?
  split
  · rename_i h
    exact .inr ⟨⟨t.toNat, by omega⟩, rfl, by simp [h.1], h.1, h.2⟩
  · exact .inl ⟨rfl, by omega⟩

@[simp] theorem threshold?_natCast (t : Threshold) : threshold? (t.val : Int) = some t := by
  have := t.isLt
  simp only [threshold?]
  rw [dif_pos (by omega)]
  simp

theorem needsFlip_iff (t : Threshold) : needsFlip t = true ↔ 0 < t.val ∧ t.val < 20 := by
  simp [needsFlip, Config.N]

/-! ### Edge Counter primitives -/

theorem ecConfigure_cases (g : Arg) (s : State) :
    (s.nextDraw = true ∧ ecConfigure g s = (.hwFail, s.takeDraw)) ∨
    (s.nextDraw = false ∧
      ecConfigure g s =
        (.ok,
          { s.takeDraw with
            ecConfigured := true, ecGlitchNs := g, ecCount := 0
            wpFlipValid := false, wpFullValid := false
            evtFlipPending := false, evtFullPending := false })) := by
  unfold ecConfigure
  split <;> simp_all

/-- What `EC.add_wp` and `EC.remove_wp` share: a refusal leaves all but the oracle's place, otherwise
the slot's own part runs. -/
theorem withWatchPoint_cases (slot : WatchPoint → State → Status × State) (v : Nat) (s : State) :
    (∃ st, st ≠ .ok ∧ withWatchPoint slot v s = (st, s.takeDraw)) ∨
    (s.nextDraw = false ∧ s.ecConfigured = true ∧
      ∃ p, watchPoint? v = some p ∧ withWatchPoint slot v s = slot p s.takeDraw) := by
  unfold withWatchPoint
  split
  · exact .inl ⟨.hwFail, by decide, rfl⟩
  split
  · exact .inl ⟨.invalidState, by decide, rfl⟩
  split
  · exact .inl ⟨.invalidArg, by decide, rfl⟩
  · exact .inr ⟨by simp_all, by simp_all, _, ‹_›, rfl⟩

/-- What `EC.add_wp` can do: nothing but take its draw, or register in an empty slot. -/
theorem ecAddWp_cases (v : Nat) (s : State) :
    ((ecAddWp v s).1 ≠ .ok ∧ (ecAddWp v s).2 = s.takeDraw) ∨
    (v = Config.N ∧ s.nextDraw = false ∧ s.ecConfigured = true ∧ s.wpFullValid = false ∧
      ecAddWp v s = (.ok, { s.takeDraw with wpFullValid := true })) ∨
    (∃ c : Count, c.val = v ∧ 0 < v ∧ s.nextDraw = false ∧ s.ecConfigured = true ∧
      s.wpFlipValid = false ∧
      ecAddWp v s = (.ok, { s.takeDraw with wpFlipValid := true, wpFlipVal := c })) := by
  rcases withWatchPoint_cases registerWp v s with ⟨st, hst, h⟩ | ⟨hd, hc, p, hp, h⟩
  · exact .inl (by simp [ecAddWp, h, hst])
  rcases watchPoint?_cases v with ⟨hn, -⟩ | ⟨hv, h0, hf⟩ | ⟨hv, hf⟩
  · simp [hn] at hp
  · obtain rfl : WatchPoint.flip ⟨v, hv⟩ = p := by simpa [hf] using hp
    by_cases hs : s.wpFlipValid = true
    · left
      simp only [ecAddWp, h, registerWp, State.takeDraw_wpFlipValid, hs]
      split <;> simp
    · exact .inr (.inr ⟨⟨v, hv⟩, rfl, h0, hd, hc, by simpa using hs, by
        simp [ecAddWp, h, registerWp, hs]⟩)
  · obtain rfl : WatchPoint.full = p := by simpa [hf] using hp
    by_cases hs : s.wpFullValid = true
    · exact .inl (by simp [ecAddWp, h, registerWp, hs])
    · exact .inr (.inl ⟨hv, hd, hc, by simpa using hs, by simp [ecAddWp, h, registerWp, hs]⟩)

/-- What `EC.remove_wp` can do: nothing but take its draw, or empty a slot that holds the value. -/
theorem ecRemoveWp_cases (v : Nat) (s : State) :
    ((ecRemoveWp v s).1 ≠ .ok ∧ (ecRemoveWp v s).2 = s.takeDraw) ∨
    (v = Config.N ∧ s.nextDraw = false ∧ s.ecConfigured = true ∧ s.wpFullValid = true ∧
      ecRemoveWp v s = (.ok, { s.takeDraw with wpFullValid := false })) ∨
    (0 < v ∧ s.nextDraw = false ∧ s.ecConfigured = true ∧ s.wpFlipValid = true ∧
      s.wpFlipVal.val = v ∧ ecRemoveWp v s = (.ok, { s.takeDraw with wpFlipValid := false })) := by
  rcases withWatchPoint_cases unregisterWp v s with ⟨st, hst, h⟩ | ⟨hd, hc, p, hp, h⟩
  · exact .inl (by simp [ecRemoveWp, h, hst])
  rcases watchPoint?_cases v with ⟨hn, -⟩ | ⟨hv, h0, hf⟩ | ⟨hv, hf⟩
  · simp [hn] at hp
  · obtain rfl : WatchPoint.flip ⟨v, hv⟩ = p := by simpa [hf] using hp
    by_cases hs : s.wpFlipValid = true ∧ s.wpFlipVal = ⟨v, hv⟩
    · exact .inr (.inr ⟨h0, hd, hc, hs.1, by simp [hs.2], by
        simp [ecRemoveWp, h, unregisterWp, hs]⟩)
    · exact .inl (by simp [ecRemoveWp, h, unregisterWp, hs])
  · obtain rfl : WatchPoint.full = p := by simpa [hf] using hp
    by_cases hs : s.wpFullValid = true
    · exact .inr (.inl ⟨hv, hd, hc, hs, by simp [ecRemoveWp, h, unregisterWp, hs]⟩)
    · exact .inl (by simp [ecRemoveWp, h, unregisterWp, hs])

theorem ecClear_cases (s : State) :
    (s.ecConfigured = true ∧ ecClear s = (.ok, { s with ecCount := 0 })) ∨
    (s.ecConfigured = false ∧ ecClear s = (.invalidState, s)) := by
  unfold ecClear
  split <;> simp_all

/-! ### Delay Actuator primitives -/

theorem dtConfigure_cases (s : State) :
    (s.nextDraw = true ∧ dtConfigure s = (.hwFail, s.takeDraw)) ∨
    (s.nextDraw = false ∧
      dtConfigure s =
        (.ok,
          { s.takeDraw with
            dtConfigured := true, dtRunning := false, dtCount := 0, dtEvtPending := false })) := by
  unfold dtConfigure
  split <;> simp_all

theorem dtResetAndStart_cases (s : State) :
    (s.dtConfigured = true ∧
      dtResetAndStart s = (.ok, { s with dtCount := 0, dtRunning := true, dtEvtPending := false })) ∨
    (s.dtConfigured = false ∧ dtResetAndStart s = (.invalidState, s)) := by
  unfold dtResetAndStart
  split <;> simp_all

theorem dtStop_cases (s : State) :
    (s.dtConfigured = true ∧ dtStop s = (.ok, { s with dtRunning := false })) ∨
    (s.dtConfigured = false ∧ dtStop s = (.invalidState, s)) := by
  unfold dtStop
  split <;> simp_all

/-! ### Interrupts -/

theorem enterWatchPoint_cases (s : State) :
    (s.evtFlipPending = true ∧
      enterWatchPoint s = (s.evtFlipVal.val, { s with evtFlipPending := false })) ∨
    (s.evtFlipPending = false ∧
      enterWatchPoint s = (Config.N, { s with evtFullPending := false })) := by
  unfold enterWatchPoint
  split <;> simp_all

/-- `TE.schedule` records the intent, and arms the timer if it is configured. -/
theorem schedule_cases (l : Level) (s : State) :
    (s.dtConfigured = true ∧
      schedule l s =
        { s with
          faultArmSupersede := s.faultArmSupersede || s.pol.isSome
          pol := some l, dtCount := 0, dtRunning := true, dtEvtPending := false }) ∨
    (s.dtConfigured = false ∧
      schedule l s =
        { s with faultArmSupersede := s.faultArmSupersede || s.pol.isSome, pol := some l }) := by
  unfold schedule dtResetAndStart
  split <;> simp_all

/-! ### Commands -/

theorem directCommand_cases (p : State → Status × State) (s : State) :
    (s.engState = .running ∧ directCommand p s = respond .invalidState 0 s) ∨
    (s.engState ≠ .running ∧ directCommand p s = respond (p s).1 0 (p s).2) := by
  unfold directCommand
  split <;> simp_all

theorem andThen_ok (s : State) (f : State → Status × State) : andThen (.ok, s) f = f s := rfl

theorem andThen_fail (r : Status × State) (f : State → Status × State) (h : r.1 ≠ .ok) :
    andThen r f = r := by simp [andThen, h]

theorem request_cases (t : Threshold) (s : State) :
    (s.engState ≠ .running ∧ request t s = { s with activeThreshold := t }) ∨
    (s.engState = .running ∧ t = s.activeThreshold ∧
      request t s = { s with pendingValid := false }) ∨
    (s.engState = .running ∧ t ≠ s.activeThreshold ∧
      request t s = { s with pendingThreshold := t, pendingValid := true }) := by
  unfold request
  split
  · exact .inl ⟨‹_›, rfl⟩
  split
  · exact .inr (.inl ⟨by simp_all, ‹_›, rfl⟩)
  · exact .inr (.inr ⟨by simp_all, ‹_›, rfl⟩)

end Sys2Proof.Machine
end

