-- ==== Sys2Proof/Laws/DutyCycle.lean ====
section
/-! SUPPORT. What starting the engine and applying a request can do. -/

namespace Sys2Proof.Machine

theorem andThen_of_ok {r : Status × State} (h : r.1 = .ok) (f : State → Status × State) :
    andThen r f = f r.2 := by simp [andThen, h]

/-- `EC.add_wp(N)` on a freshly configured counter can fail by its draw alone. -/
theorem ecAddWp_full (s : State) (hc : s.ecConfigured = true) (hv : s.wpFullValid = false) :
    (s.nextDraw = true ∧ ecAddWp Config.N s = (.hwFail, s.takeDraw)) ∨
    (s.nextDraw = false ∧ ecAddWp Config.N s = (.ok, { s.takeDraw with wpFullValid := true })) := by
  cases hd : s.nextDraw <;>
    simp [ecAddWp, withWatchPoint, hd, hc, watchPoint?_N, registerWp, hv]

/-- `EC.add_wp(v)` for `0 < v < N` on a configured counter with an empty FLIP slot can fail by its draw
alone. -/
theorem ecAddWp_flip (c : Count) (h0 : 0 < c.val) (s : State) (hc : s.ecConfigured = true)
    (hv : s.wpFlipValid = false) :
    (s.nextDraw = true ∧ ecAddWp c.val s = (.hwFail, s.takeDraw)) ∨
    (s.nextDraw = false ∧
      ecAddWp c.val s = (.ok, { s.takeDraw with wpFlipValid := true, wpFlipVal := c })) := by
  cases hd : s.nextDraw <;>
    simp [ecAddWp, withWatchPoint, hd, hc, watchPoint?_flip c h0, registerWp, hv]

/-- `EC.remove_wp(v)` of the registered FLIP value can fail by its draw alone. -/
theorem ecRemoveWp_flip (s : State) (h0 : 0 < s.wpFlipVal.val) (hc : s.ecConfigured = true)
    (hv : s.wpFlipValid = true) :
    (s.nextDraw = true ∧ ecRemoveWp s.wpFlipVal.val s = (.hwFail, s.takeDraw)) ∨
    (s.nextDraw = false ∧
      ecRemoveWp s.wpFlipVal.val s = (.ok, { s.takeDraw with wpFlipValid := false })) := by
  cases hd : s.nextDraw <;>
    simp [ecRemoveWp, withWatchPoint, hd, hc, watchPoint?_flip _ h0, unregisterWp, hv]

/-- A threshold strictly inside (0, N), as the value of a FLIP slot. -/
theorem exists_count_of_needsFlip {t : Threshold} (h : needsFlip t = true) :
    ∃ c : Count, c.val = t.val ∧ 0 < c.val :=
  ⟨⟨t.val, ((needsFlip_iff t).1 h).2⟩, rfl, ((needsFlip_iff t).1 h).1⟩

/-- The set-up of `ENG_START`: some draw fails it, and then at most the glitch setting, the FLIP slot's
value and the oracle's place differ once both peripherals are unconfigured again; or it succeeds. -/
theorem engSetup_cases (s : State) :
    ((engSetup s).1 ≠ .ok ∧
      ∃ g v ds n, engFail (engSetup s).2 =
        engFail { s with ecGlitchNs := g, wpFlipVal := v, draws := ds, drawCount := n }) ∨
    ((engSetup s).1 = .ok ∧
      ∃ v ds n, (needsFlip s.activeThreshold = true → v.val = s.activeThreshold.val) ∧
        (engSetup s).2 =
          { s with
            draws := ds, drawCount := n
            ecConfigured := true, ecGlitchNs := Config.glitchFilterNs, ecCount := 0
            wpFlipValid := needsFlip s.activeThreshold, wpFlipVal := v, wpFullValid := true
            evtFlipPending := false, evtFullPending := false
            dtConfigured := true, dtRunning := false, dtCount := 0, dtEvtPending := false }) := by
  rcases ecConfigure_cases Config.glitchFilterNs s with ⟨-, h1⟩ | ⟨-, h1⟩
  · refine .inl ?_
    have e : engSetup s = (.hwFail, s.takeDraw) := by simp [engSetup, h1, andThen]
    exact ⟨by simp [e], _, _, _, _, by rw [e]; rfl⟩
  generalize hs1 : (ecConfigure Config.glitchFilterNs s).2 = s1
  have e1 : ecConfigure Config.glitchFilterNs s = (.ok, s1) := by rw [← hs1, h1]
  have f1 : s1 =
      { s.takeDraw with
        ecConfigured := true, ecGlitchNs := Config.glitchFilterNs, ecCount := 0
        wpFlipValid := false, wpFullValid := false
        evtFlipPending := false, evtFullPending := false } := by rw [← hs1, h1]
  rcases ecAddWp_full s1 (by simp [f1]) (by simp [f1]) with ⟨-, h2⟩ | ⟨-, h2⟩
  · refine .inl ?_
    have e : engSetup s = (.hwFail, s1.takeDraw) := by simp [engSetup, e1, andThen, h2]
    exact ⟨by simp [e], _, _, _, _, by rw [e, f1]; rfl⟩
  generalize hs2 : (ecAddWp Config.N s1).2 = s2
  have e2 : ecAddWp Config.N s1 = (.ok, s2) := by rw [← hs2, h2]
  have f2 : s2 = { s1.takeDraw with wpFullValid := true } := by rw [← hs2, h2]
  have ha : s2.activeThreshold = s.activeThreshold := by rw [f2, f1]; rfl
  have hstep : engSetup s = andThen (addActiveFlip s2) dtConfigure := by
    simp [engSetup, e1, andThen, e2]
  cases hn : needsFlip s.activeThreshold
  · have e3 : addActiveFlip s2 = (.ok, s2) := by simp [addActiveFlip, ha, hn]
    rcases dtConfigure_cases s2 with ⟨-, h4⟩ | ⟨-, h4⟩
    · refine .inl ?_
      have e : engSetup s = (.hwFail, s2.takeDraw) := by simp [hstep, e3, andThen, h4]
      exact ⟨by simp [e], _, _, _, _, by rw [e, f2, f1]; rfl⟩
    · refine .inr ?_
      have e : engSetup s = dtConfigure s2 := by simp [hstep, e3, andThen]
      exact ⟨by simp [e, h4], s.wpFlipVal, _, _, by simp, by rw [e, h4, f2, f1]; rfl⟩
  · obtain ⟨c, hc, h0⟩ := exists_count_of_needsFlip hn
    have hadd : addActiveFlip s2 = ecAddWp c.val s2 := by simp [addActiveFlip, ha, hn, hc]
    rcases ecAddWp_flip c h0 s2 (by simp [f2, f1]) (by simp [f2, f1]) with ⟨-, h3⟩ | ⟨-, h3⟩
    · refine .inl ?_
      have e : engSetup s = (.hwFail, s2.takeDraw) := by simp [hstep, hadd, h3, andThen]
      exact ⟨by simp [e], _, _, _, _, by rw [e, f2, f1]; rfl⟩
    generalize hs3 : (ecAddWp c.val s2).2 = s3
    have e3 : addActiveFlip s2 = (.ok, s3) := by rw [hadd, ← hs3, h3]
    have f3 : s3 = { s2.takeDraw with wpFlipValid := true, wpFlipVal := c } := by rw [← hs3, h3]
    rcases dtConfigure_cases s3 with ⟨-, h4⟩ | ⟨-, h4⟩
    · refine .inl ?_
      have e : engSetup s = (.hwFail, s3.takeDraw) := by simp [hstep, e3, andThen, h4]
      exact ⟨by simp [e], _, _, _, _, by rw [e, f3, f2, f1]; rfl⟩
    · refine .inr ?_
      have e : engSetup s = dtConfigure s3 := by simp [hstep, e3, andThen]
      exact ⟨by simp [e, h4], c, _, _, fun _ => hc, by rw [e, h4, f3, f2, f1]; rfl⟩

/-- What a roll-back can do: nothing but take its draw, or put the old FLIP point back, or record that
it could not. -/
theorem dcRollback_cases (removed : Bool) (old : Count) (s : State) :
    (removed = false ∧ dcRollback removed old s = (.failRolledBack, s)) ∨
    (removed = true ∧ (ecAddWp old.val s).1 = .ok ∧
      dcRollback removed old s = (.failRolledBack, (ecAddWp old.val s).2)) ∨
    (removed = true ∧ (ecAddWp old.val s).1 ≠ .ok ∧
      dcRollback removed old s = (.failUnrestored, { s.takeDraw with faultFlipUnrestored := true })) := by
  cases removed
  · exact .inl ⟨rfl, by simp [dcRollback]⟩
  · by_cases h : (ecAddWp old.val s).1 = .ok
    · exact .inr (.inl ⟨rfl, h, by simp [dcRollback, h]⟩)
    · have e : (ecAddWp old.val s).2 = s.takeDraw := by
        rcases ecAddWp_cases old.val s with ⟨-, e⟩ | ⟨-, -, -, -, e⟩ | ⟨_, -, -, -, -, -, e⟩
        · exact e
        · simp [e] at h
        · simp [e] at h
      exact .inr (.inr ⟨rfl, h, by simp [dcRollback, h, e]⟩)

/-- What the swap can write at all: the FLIP slot, its sticky flag, and the oracle's place. -/
theorem dcSwap_frame (p : Threshold) (s : State) :
    ∃ v c f ds n, (dcSwap p s).2 =
      { s with
        wpFlipValid := v, wpFlipVal := c, faultFlipUnrestored := f, draws := ds, drawCount := n } ∧
      (s.faultFlipUnrestored = true → f = true) := by
  have add : ∀ (old : Count) (x : State),
      ∃ v c ds n, (ecAddWp old.val x).2 =
        { x with wpFlipValid := v, wpFlipVal := c, draws := ds, drawCount := n } := by
    intro old x
    rcases ecAddWp_cases old.val x with ⟨-, e⟩ | ⟨h, -⟩ | ⟨_, -, -, -, -, -, e⟩
    · exact ⟨_, _, _, _, e⟩
    · have := old.isLt
      unfold Config.N at h
      omega
    · exact ⟨_, _, _, _, by rw [e]; rfl⟩
  have roll : ∀ (r : Bool) (old : Count) (x : State),
      ∃ v c f ds n, (dcRollback r old x).2 =
        { x with
          wpFlipValid := v, wpFlipVal := c, faultFlipUnrestored := f, draws := ds, drawCount := n } ∧
        (x.faultFlipUnrestored = true → f = true) := by
    intro r old x
    rcases dcRollback_cases r old x with ⟨-, e⟩ | ⟨-, -, e⟩ | ⟨-, -, e⟩
    · exact ⟨_, _, _, _, _, by rw [e], id⟩
    · obtain ⟨v, c, ds, n, h⟩ := add old x
      exact ⟨v, c, _, ds, n, by rw [e]; exact h, id⟩
    · exact ⟨_, _, true, _, _, by rw [e]; rfl, fun _ => rfl⟩
  have half : ∀ (r : Bool) (old : Count) (x : State),
      ∃ v c f ds n, (dcAddHalf p r old x).2 =
        { x with
          wpFlipValid := v, wpFlipVal := c, faultFlipUnrestored := f, draws := ds, drawCount := n } ∧
        (x.faultFlipUnrestored = true → f = true) := by
    intro r old x
    unfold dcAddHalf
    split
    · rename_i hn
      obtain ⟨q, hq, -⟩ := exists_count_of_needsFlip hn
      obtain ⟨v, c, ds, n, h⟩ := add q x
      rw [hq] at h
      split
      · exact ⟨v, c, _, ds, n, h, id⟩
      · obtain ⟨v', c', f', ds', n', h', hf⟩ := roll r old (ecAddWp p.val x).2
        exact ⟨v', c', f', ds', n', by rw [h', h], by rw [h] at hf; exact hf⟩
    · exact ⟨_, _, _, _, _, rfl, id⟩
  unfold dcSwap
  split
  · have rem : (ecRemoveWp s.wpFlipVal.val s).2 = s.takeDraw ∨
        (ecRemoveWp s.wpFlipVal.val s).2 = { s.takeDraw with wpFlipValid := false } := by
      rcases ecRemoveWp_cases s.wpFlipVal.val s with ⟨-, e⟩ | ⟨h, -⟩ | ⟨-, -, -, -, -, e⟩
      · exact .inl e
      · have := s.wpFlipVal.isLt
        unfold Config.N at h
        omega
      · exact .inr (by rw [e])
    split
    · obtain ⟨v, c, f, ds, n, h, hf⟩ := half true s.wpFlipVal (ecRemoveWp s.wpFlipVal.val s).2
      rcases rem with e | e
      · exact ⟨v, c, f, ds, n, by rw [h, e]; rfl, by rw [e] at hf; exact hf⟩
      · exact ⟨v, c, f, ds, n, by rw [h, e]; rfl, by rw [e] at hf; exact hf⟩
    · rcases rem with e | e
      · exact ⟨_, _, _, _, _, e, id⟩
      · exact ⟨_, _, _, _, _, e, id⟩
  · exact half false s.wpFlipVal s

end Sys2Proof.Machine
end

