-- ==== Sys2Proof/Laws/PerInstr.lean ====
section
/-! SUPPORT. A statement for every instruction, made one constructor at a time: its word selects its row of R84. -/

namespace Sys2Proof.Laws.WordSelectsRow

/-- The word of the instruction, whatever its operand, selects the row of R84 with its mnemonic, and
that row is of Format A exactly where the word carries an argument. -/
def Statement (i : Instr) : Prop :=
  ∃ row ∈ opcodeTable, row.mnemonic = i.mnemonic ∧ row.selectedBy (encode i) = true ∧
    (row.format = .Z → argField (encode i) = 0)

/-- An argument leaves the opcode's bits alone. -/
theorem op_masked (op : BitVec 8) (a : Arg) :
    (op ++ a) &&& 0xFF000000#32 = op ++ (0 : Arg) := by
  have e : (0xFF000000#32 : BitVec 32) = (BitVec.allOnes 8) ++ (0 : Arg) := by decide
  rw [e, BitVec.and_append, BitVec.and_allOnes]
  congr 1
  exact BitVec.and_zero

/-- The Format A case: the row's mask keeps the opcode alone. -/
theorem of_format_A (i : Instr) (name : String) (op : BitVec 8) (pattern : Word)
    (hm : i.mnemonic = name) (ho : opcode i = op)
    (hrow : (⟨name, .A, pattern, 0xFF000000⟩ : Row) ∈ opcodeTable)
    (hp : op ++ (0 : Arg) = pattern) : Statement i := by
  refine ⟨_, hrow, hm.symm, ?_, by simp⟩
  unfold Row.selectedBy encode
  rw [beq_iff_eq, ho]
  exact (op_masked _ _).trans hp

theorem ecConfigure (g : Nat) : Statement (.ecConfigure g) :=
  of_format_A _ "EC_CONFIGURE" 0x10 0x10000000 rfl rfl (by decide) (by decide)

theorem ecAddWp (v : Nat) : Statement (.ecAddWp v) :=
  of_format_A _ "EC_ADD_WP" 0x11 0x11000000 rfl rfl (by decide) (by decide)

theorem ecRemoveWp (v : Nat) : Statement (.ecRemoveWp v) :=
  of_format_A _ "EC_REMOVE_WP" 0x12 0x12000000 rfl rfl (by decide) (by decide)

theorem ecClear : Statement .ecClear := by unfold Statement; decide

theorem ecGetCount : Statement .ecGetCount := by unfold Statement; decide

theorem dtConfigure : Statement .dtConfigure := by unfold Statement; decide

theorem dtResetAndStart : Statement .dtResetAndStart := by unfold Statement; decide

theorem dtStop : Statement .dtStop := by unfold Statement; decide

theorem engStart : Statement .engStart := by unfold Statement; decide

theorem setDutyCycle (t : Int) : Statement (.setDutyCycle t) :=
  of_format_A _ "SET_DUTY_CYCLE" 0x31 0x31000000 rfl rfl (by decide) (by decide)

theorem getDutyCycle : Statement .getDutyCycle := by unfold Statement; decide

theorem getTriggerCount : Statement .getTriggerCount := by unfold Statement; decide

theorem getCycleCount : Statement .getCycleCount := by unfold Statement; decide

theorem getLastCycleTime : Statement .getLastCycleTime := by unfold Statement; decide

theorem getFrequency : Statement .getFrequency := by unfold Statement; decide

theorem takeApplyResult : Statement .takeApplyResult := by unfold Statement; decide

theorem getStatus : Statement .getStatus := by unfold Statement; decide

end Sys2Proof.Laws.WordSelectsRow
end

