-- ==== Sys2Proof/Laws/Safety.lean ====
section
/-! SUPPORT. The small lemmas of the terms that the statements use: the draws to come, and what the FULL branch leaves. -/

namespace Sys2Proof.Machine

/-! ### The draws to come -/

@[simp] theorem drawAt_zero (s : State) : drawAt s 0 = s.nextDraw := by
  unfold drawAt State.nextDraw
  cases s.draws <;> simp

@[simp] theorem drawAt_takeDraw (s : State) (k : Nat) : drawAt s.takeDraw k = drawAt s (k + 1) := by
  unfold drawAt State.takeDraw
  cases h : s.draws <;> simp [Nat.add_assoc, Nat.add_comm 1 k]

/-- The draws to come depend on the oracle's two fields alone. -/
theorem drawAt_congr {s t : State} (h : t.draws = s.draws) (hn : t.drawCount = s.drawCount)
    (k : Nat) : drawAt t k = drawAt s k := by
  unfold drawAt
  rw [h, hn]

@[simp] theorem drawAt_spendDeferral (s : State) (k : Nat) :
    drawAt (spendDeferral s) k = drawAt s k := drawAt_congr (by simp) (by simp) k

/-! ### `afterFull` -/

@[simp] theorem afterFull_ecConfigured (t : Threshold) (s : State) :
    (afterFull t s).ecConfigured = s.ecConfigured := rfl
@[simp] theorem afterFull_ecGlitchNs (t : Threshold) (s : State) :
    (afterFull t s).ecGlitchNs = s.ecGlitchNs := rfl
@[simp] theorem afterFull_ecCount (t : Threshold) (s : State) :
    (afterFull t s).ecCount = 0 := rfl
@[simp] theorem afterFull_wpFlipValid (t : Threshold) (s : State) :
    (afterFull t s).wpFlipValid = s.wpFlipValid := rfl
@[simp] theorem afterFull_wpFlipVal (t : Threshold) (s : State) :
    (afterFull t s).wpFlipVal = s.wpFlipVal := rfl
@[simp] theorem afterFull_wpFullValid (t : Threshold) (s : State) :
    (afterFull t s).wpFullValid = s.wpFullValid := rfl
@[simp] theorem afterFull_evtFlipPending (t : Threshold) (s : State) :
    (afterFull t s).evtFlipPending = s.evtFlipPending := rfl
@[simp] theorem afterFull_evtFlipVal (t : Threshold) (s : State) :
    (afterFull t s).evtFlipVal = s.evtFlipVal := rfl
@[simp] theorem afterFull_evtFullPending (t : Threshold) (s : State) :
    (afterFull t s).evtFullPending = false := rfl
@[simp] theorem afterFull_dtConfigured (t : Threshold) (s : State) :
    (afterFull t s).dtConfigured = s.dtConfigured := rfl
@[simp] theorem afterFull_dtRunning (t : Threshold) (s : State) :
    (afterFull t s).dtRunning = true := rfl
@[simp] theorem afterFull_dtCount (t : Threshold) (s : State) :
    (afterFull t s).dtCount = 0 := rfl
@[simp] theorem afterFull_dtEvtPending (t : Threshold) (s : State) :
    (afterFull t s).dtEvtPending = false := rfl
@[simp] theorem afterFull_engState (t : Threshold) (s : State) :
    (afterFull t s).engState = s.engState := rfl
@[simp] theorem afterFull_activeThreshold (t : Threshold) (s : State) :
    (afterFull t s).activeThreshold = s.activeThreshold := rfl
@[simp] theorem afterFull_pendingValid (t : Threshold) (s : State) :
    (afterFull t s).pendingValid = s.pendingValid := rfl
@[simp] theorem afterFull_pendingThreshold (t : Threshold) (s : State) :
    (afterFull t s).pendingThreshold = s.pendingThreshold := rfl
@[simp] theorem afterFull_lastApplyResult (t : Threshold) (s : State) :
    (afterFull t s).lastApplyResult = s.lastApplyResult := rfl
@[simp] theorem afterFull_applyEventPending (t : Threshold) (s : State) :
    (afterFull t s).applyEventPending = s.applyEventPending := rfl
@[simp] theorem afterFull_pol (t : Threshold) (s : State) :
    (afterFull t s).pol = some (if t.val = 0 then .low else .high) := rfl
@[simp] theorem afterFull_out (t : Threshold) (s : State) :
    (afterFull t s).out = s.out := rfl
@[simp] theorem afterFull_now (t : Threshold) (s : State) :
    (afterFull t s).now = s.now := rfl
@[simp] theorem afterFull_prevFullTs (t : Threshold) (s : State) :
    (afterFull t s).prevFullTs = s.now := rfl
@[simp] theorem afterFull_prevFullValid (t : Threshold) (s : State) :
    (afterFull t s).prevFullValid = true := rfl
@[simp] theorem afterFull_triggerCount (t : Threshold) (s : State) :
    (afterFull t s).triggerCount = s.triggerCount + 1 := rfl
@[simp] theorem afterFull_cycleCount (t : Threshold) (s : State) :
    (afterFull t s).cycleCount = s.cycleCount + 1 := rfl
@[simp] theorem afterFull_lastCycleTimeUs (t : Threshold) (s : State) :
    (afterFull t s).lastCycleTimeUs =
      if s.prevFullValid = true then
        BitVec.ofNat 32 (min (s.now - s.prevFullTs).toNat (2 ^ 32 - 1))
      else s.lastCycleTimeUs := rfl
@[simp] theorem afterFull_lastCycleValid (t : Threshold) (s : State) :
    (afterFull t s).lastCycleValid = (s.lastCycleValid || s.prevFullValid) := rfl
@[simp] theorem afterFull_faultWpOverrun (t : Threshold) (s : State) :
    (afterFull t s).faultWpOverrun = s.faultWpOverrun := rfl
@[simp] theorem afterFull_faultArmSupersede (t : Threshold) (s : State) :
    (afterFull t s).faultArmSupersede = (s.faultArmSupersede || s.pol.isSome) := rfl
@[simp] theorem afterFull_faultFlipUnrestored (t : Threshold) (s : State) :
    (afterFull t s).faultFlipUnrestored = s.faultFlipUnrestored := rfl
@[simp] theorem afterFull_respStatus (t : Threshold) (s : State) :
    (afterFull t s).respStatus = s.respStatus := rfl
@[simp] theorem afterFull_respData (t : Threshold) (s : State) :
    (afterFull t s).respData = s.respData := rfl
@[simp] theorem afterFull_inputs (t : Threshold) (s : State) :
    (afterFull t s).inputs = s.inputs := rfl
@[simp] theorem afterFull_draws (t : Threshold) (s : State) :
    (afterFull t s).draws = s.draws := rfl
@[simp] theorem afterFull_drawCount (t : Threshold) (s : State) :
    (afterFull t s).drawCount = s.drawCount := rfl
@[simp] theorem afterFull_deferrals (t : Threshold) (s : State) :
    (afterFull t s).deferrals = s.deferrals := rfl

end Sys2Proof.Machine
end

