-- ==== Sys2Proof/Laws/Step.lean ====
section
/-! SUPPORT. What one step can do: the label the schedule picks, and the label's step. -/

namespace Sys2Proof.Machine

theorem handlerEnabled_eq_false_iff (s : State) :
    handlerEnabled s = false ↔
      (s.engState = .running →
        s.dtEvtPending = false ∧ s.evtFlipPending = false ∧ s.evtFullPending = false) := by
  by_cases h : s.engState = .running <;> simp [handlerEnabled, dtEnabled, wpEnabled, h]

theorem dueHandler?_eq_none_iff (s : State) : dueHandler? s = none ↔ handlerEnabled s = false := by
  unfold dueHandler? handlerEnabled
  cases dtEnabled s <;> cases wpEnabled s <;> simp

/-- Which step comes next, all cases: the environment's, when no handler is due or the due one lags;
`DT_SERVICE`; `WP_SERVICE`. -/
theorem nextLabel?_cases (s : State) :
    ((handlerEnabled s = false ∨ handlerLags s = true) ∧
      nextLabel? s = s.inputs.head?.map .input) ∨
    (s.engState = .running ∧ s.dtEvtPending = true ∧ handlerLags s = false ∧
      nextLabel? s = some .dtService) ∨
    (s.engState = .running ∧ s.dtEvtPending = false ∧
      (s.evtFlipPending = true ∨ s.evtFullPending = true) ∧ handlerLags s = false ∧
      nextLabel? s = some .wpService) := by
  by_cases hr : s.engState = .running
  · cases hd : s.dtEvtPending <;> cases hf : s.evtFlipPending <;> cases hF : s.evtFullPending <;>
      cases hl : handlerLags s <;>
      simp [nextLabel?, dueHandler?, handlerEnabled, dtEnabled, wpEnabled, hr, hd, hf, hF, hl]
  · exact .inl ⟨.inl ((handlerEnabled_eq_false_iff s).2 fun h => absurd h hr), by
      simp [nextLabel?, dueHandler?, dtEnabled, wpEnabled, hr]⟩

theorem step_of_nextLabel {s : State} {l : Label} (h : nextLabel? s = some l) :
    step s = fire l (consume l (spendDeferral s)) := by simp [step, h]

theorem step_of_noLabel {s : State} (h : nextLabel? s = none) :
    step s = .next (spendDeferral s) := by simp [step, h]

/-- What a step can do: nothing but spend the schedule's bit, or the step of the next label. -/
theorem step_cases {s t : State} (h : step s = .next t) :
    (nextLabel? s = none ∧ t = spendDeferral s) ∨
    ∃ l, nextLabel? s = some l ∧ fire l (consume l (spendDeferral s)) = .next t := by
  cases hl : nextLabel? s with
  | none => rw [step_of_noLabel hl] at h; cases h; exact .inl ⟨rfl, rfl⟩
  | some l => rw [step_of_nextLabel hl] at h; exact .inr ⟨l, rfl, h⟩

/-- What a `CMD` step can do. -/
theorem command_cases (w : Word) (s : State) :
    (∃ e, decode w = .error e ∧ command w s = .next (respond .unknownOp 0 s)) ∨
    ∃ i, decode w = .ok i ∧ command w s = exec i s := by
  cases h : decode w with
  | error e => exact .inl ⟨e, rfl, by simp [command, h]⟩
  | ok i => exact .inr ⟨i, rfl, by simp [command, h]⟩

/-- What `RISE` can do. -/
theorem rise_cases (s : State) :
    (s.ecConfigured = false ∧ rise s = s) ∨
    (s.ecConfigured = true ∧ ∃ c : Count, c.val = s.ecCount.val + 1 ∧
      ((s.wpFlipValid = true ∧ s.wpFlipVal = c ∧ rise s = postFlip c { s with ecCount := c }) ∨
       ((s.wpFlipValid = false ∨ s.wpFlipVal ≠ c) ∧ rise s = { s with ecCount := c }))) ∨
    (s.ecConfigured = true ∧ s.ecCount.val = 19 ∧
      ((s.wpFullValid = true ∧ rise s = postFull { s with ecCount := 0 }) ∨
       (s.wpFullValid = false ∧ rise s = { s with ecCount := 0 }))) := by
  by_cases hc : s.ecConfigured = true
  · by_cases h : s.ecCount.val + 1 < 20
    · refine .inr (.inl ⟨hc, ⟨_, h⟩, rfl, ?_⟩)
      simp only [rise, hc, if_true, h, dif_pos, reachCount, setCount]
      by_cases hf : s.wpFlipValid = true ∧ s.wpFlipVal = ⟨_, h⟩
      · exact .inl ⟨hf.1, hf.2, by rw [if_pos hf]⟩
      · exact .inr ⟨by simpa only [not_and_or, Bool.not_eq_true] using hf, by rw [if_neg hf]⟩
    · refine .inr (.inr ⟨hc, by omega, ?_⟩)
      simp only [rise, hc, if_true, h, dif_neg, not_false_eq_true, wrapCount, setCount]
      by_cases hf : s.wpFullValid = true
      · exact .inl ⟨hf, by rw [if_pos hf]⟩
      · exact .inr ⟨by simpa using hf, by rw [if_neg hf]⟩
  · exact .inl ⟨by simpa using hc, by simp [rise, hc]⟩

/-- What `TICK` can do. -/
theorem tick_cases (s : State) :
    (s.dtRunning = false ∧ tick s = { s with now := s.now + 1 }) ∨
    (s.dtRunning = true ∧ s.dtCount + 1 ≠ 2000 ∧
      tick s = { s with now := s.now + 1, dtCount := s.dtCount + 1 }) ∨
    (s.dtRunning = true ∧ s.dtCount + 1 = 2000 ∧
      tick s =
        { s with
          now := s.now + 1, dtCount := 2000, dtRunning := false, dtEvtPending := true }) := by
  by_cases hr : s.dtRunning = true
  · by_cases h : s.dtCount + 1 = 2000
    · refine .inr (.inr ⟨hr, h, ?_⟩)
      have h' : s.dtCount + 1 = BitVec.ofNat 32 Config.dtAlarm := h
      simp only [tick, hr, if_true, countTick, advanceClock, if_pos h', postExpiry]
      rw [h]
    · refine .inr (.inl ⟨hr, h, ?_⟩)
      have h' : ¬ s.dtCount + 1 = BitVec.ofNat 32 Config.dtAlarm := h
      simp only [tick, hr, if_true, countTick, advanceClock, if_neg h']
  · exact .inl ⟨by simpa using hr, by simp [tick, hr, advanceClock]⟩

theorem writePin_cases (s : State) :
    (s.pol = none ∧ writePin s = s) ∨
    ∃ level, s.pol = some level ∧ writePin s = { s with out := level, pol := none } := by
  unfold writePin
  split
  · exact .inr ⟨_, ‹_›, rfl⟩
  · exact .inl ⟨‹_›, rfl⟩

/-- Which branch `WP_SERVICE` takes. -/
theorem wpBranch_cases (v : Nat) (s : State) :
    (0 < v ∧ v < Config.N ∧ v = s.activeThreshold.val ∧ wpBranch v s = flipBranch s) ∨
    (v = Config.N ∧ wpBranch v s = fullBranch s) ∨
    (v ≠ Config.N ∧ (v = 0 ∨ Config.N < v ∨ v ≠ s.activeThreshold.val) ∧ wpBranch v s = s) := by
  unfold wpBranch
  split
  · rename_i h
    exact .inl ⟨h.1, h.2.1, h.2.2, rfl⟩
  split
  · exact .inr (.inl ⟨‹_›, rfl⟩)
  · exact .inr (.inr ⟨‹_›, by unfold Config.N at *; omega, rfl⟩)

end Sys2Proof.Machine
end

