-- ==== Sys2Proof/Machine/Trace.lean ====
section
/-! DEFINITION. The trace notation of R14: a list of items applied left to right under the reference schedule of R9, with the draws that `INJ` lists. -/

namespace Sys2Proof.Machine

/-! ### Items -/

/-- An item of a trace (R14). -/
inductive TraceItem where
  /-- `RESET`. -/
  | reset
  /-- `T n`. -/
  | ticks (n : Nat)
  /-- `E+`. -/
  | rise
  /-- `E-`. -/
  | fall
  /-- `E+ xk every d`. -/
  | risesEvery (k d : Nat)
  /-- `C MNEMONIC [arg]`. -/
  | command (i : Instr)
  /-- `INJ b1 b2 ..`, `true` for 1. -/
  | inject (bits : List Bool)
deriving DecidableEq, Repr

/-- The steps of the environment that an item stands for. -/
def TraceItem.steps : TraceItem → List Input
  | .reset => [.reset]
  | .ticks n => Sys2Proof.Machine.ticks n
  | .rise => [.rise]
  | .fall => [.fall]
  | .risesEvery k d => Sys2Proof.Machine.risesEvery k d
  | .command i => [commandStep i]
  | .inject _ => []

/-- The draws that an item lists for the next step. -/
def TraceItem.listed : TraceItem → List Bool
  | .inject bits => bits
  | .reset => []
  | .ticks _ => []
  | .rise => []
  | .fall => []
  | .risesEvery _ _ => []
  | .command _ => []

/-- The environment's steps of a trace, each with the draws listed for it: those of the `INJ` items
straight before it, in order, after the ones that are listed already. -/
def traceSteps (listed : List Bool) : List TraceItem → List (List Bool × Input)
  | [] => []
  | item :: rest =>
    match item.steps with
    | [] => traceSteps (listed ++ item.listed) rest
    | e :: es => (listed, e) :: (es.map fun e' => ([], e')) ++ traceSteps [] rest

/-! ### Applying a trace -/

/-- More draws than one step of the environment and the handler steps after it can take
(`traceStep_draws`). -/
def drawsPerTraceStep : Nat := 16

/-- The draws of one step of a trace: those listed, and 0 for each that is not (R14). -/
def traceDraws (listed : List Bool) : List Bool := listed ++ List.replicate drawsPerTraceStep false

/-- At most `k` due handler steps, one after the other (R9). -/
def settle : Nat → State → Host.Outcome State Fault Refusal
  | 0, s => .next s
  | k + 1, s =>
    if handlerEnabled s then
      match step s with
      | .next t => settle k t
      | .fault r => .fault r
      | .refused r => .refused r
    else .next s

/-- `s` with the draws of one step of a trace, in the reference schedule. -/
def openTraceStep (listed : List Bool) (s : State) : State :=
  { s with draws := traceDraws listed, deferrals := [] }

/-- `t` with the draws and the schedule that `s` had: what is listed for one step and not taken in it
is dropped. -/
def closeTraceStep (s t : State) : State := { t with draws := s.draws, deferrals := s.deferrals }

/-- One step of the environment in a trace: the step, then every handler step that is enabled, of which
there are at most three (`traceStep_quiet`). The listed draws are for all of them (log entry 17).

DESIGN CHOICE (log entry 20): where a handler is due already before the step, which in a trace only its
stated start state can show, the environment's step goes first and the handler after it. R9 and R14
leave this order open; `step` with no lag bit runs the handler first. -/
def traceStep (listed : List Bool) (e : Input) (s : State) : Host.Outcome State Fault Refusal :=
  match fire (.input e) (openTraceStep listed s) with
  | .next t =>
    match settle 3 t with
    | .next u => .next (closeTraceStep s u)
    | .fault r => .fault r
    | .refused r => .refused r
  | .fault r => .fault r
  | .refused r => .refused r

/-- The steps of a trace, left to right. -/
def runTraceSteps : List (List Bool × Input) → State → Host.Outcome State Fault Refusal
  | [], s => .next s
  | (listed, e) :: rest, s =>
    match traceStep listed e s with
    | .next t => runTraceSteps rest t
    | .fault r => .fault r
    | .refused r => .refused r

/-- A trace (R14), from a stated start state. A handler that is due there already runs after the first
step of the environment (DESIGN CHOICE, log entry 20). -/
def runTrace (items : List TraceItem) (s : State) : Host.Outcome State Fault Refusal :=
  runTraceSteps (traceSteps [] items) s

end Sys2Proof.Machine
end

