-- ==== Sys2Proof/Laws/Trace.lean ====
section
/-! SUPPORT. What one step of a trace can do: how many draws a step takes, and that the handlers due after a step settle. -/

namespace Sys2Proof.Machine

/-! ### How many draws are taken -/

/-- From `s` to `t` at most `k` draws are taken, one after the other, and the schedule is as it was. -/
def DrewAtMost (k : Nat) (s t : State) : Prop :=
  t.deferrals = s.deferrals ∧
  ∃ n ≤ k, t.draws = s.draws.drop n ∧ t.drawCount = s.drawCount + n

theorem DrewAtMost.of_eq {s t : State} (h : t.draws = s.draws) (hn : t.drawCount = s.drawCount)
    (k : Nat) (he : t.deferrals = s.deferrals := by first | rfl | simp) : DrewAtMost k s t :=
  ⟨he, 0, Nat.zero_le k, by simp [h], by simp [hn]⟩

theorem DrewAtMost.refl (k : Nat) (s : State) : DrewAtMost k s s := .of_eq rfl rfl k

theorem DrewAtMost.takeDraw (s : State) : DrewAtMost 1 s s.takeDraw :=
  ⟨rfl, 1, Nat.le_refl 1, by simp [State.takeDraw], rfl⟩

theorem DrewAtMost.mono {j k : Nat} {s t : State} (h : DrewAtMost j s t) (hk : j ≤ k) :
    DrewAtMost k s t :=
  let ⟨he, n, hn, h⟩ := h
  ⟨he, n, Nat.le_trans hn hk, h⟩

theorem DrewAtMost.trans {j k : Nat} {s t u : State} (h : DrewAtMost j s t) (h' : DrewAtMost k t u) :
    DrewAtMost (j + k) s u := by
  obtain ⟨he, n, hn, hd, hc⟩ := h
  obtain ⟨he', m, hm, hd', hc'⟩ := h'
  exact ⟨he'.trans he, n + m, by omega, by rw [hd', hd, List.drop_drop], by omega⟩

/-- A change of other fields takes no draw. -/
theorem DrewAtMost.then_eq {k : Nat} {s t u : State} (h : DrewAtMost k s t)
    (hd : u.draws = t.draws) (hc : u.drawCount = t.drawCount)
    (he : u.deferrals = t.deferrals := by first | rfl | simp) : DrewAtMost k s u := by
  simpa using h.trans (.of_eq hd hc 0 he)

theorem DrewAtMost.eq_then {k : Nat} {s t u : State} (h : DrewAtMost k t u)
    (hd : t.draws = s.draws) (hc : t.drawCount = s.drawCount)
    (he : t.deferrals = s.deferrals := by first | rfl | simp) : DrewAtMost k s u := by
  simpa using (DrewAtMost.of_eq hd hc 0 he).trans h

theorem ecConfigure_draws (g : Arg) (s : State) : DrewAtMost 1 s (ecConfigure g s).2 := by
  rcases ecConfigure_cases g s with ⟨-, e⟩ | ⟨-, e⟩ <;> rw [e]
  · exact .takeDraw s
  · exact (DrewAtMost.takeDraw s).then_eq rfl rfl

theorem ecAddWp_draws (v : Nat) (s : State) : DrewAtMost 1 s (ecAddWp v s).2 := by
  rcases ecAddWp_cases v s with ⟨-, e⟩ | ⟨-, -, -, -, e⟩ | ⟨_, -, -, -, -, -, e⟩ <;> rw [e]
  · exact .takeDraw s
  · exact (DrewAtMost.takeDraw s).then_eq rfl rfl
  · exact (DrewAtMost.takeDraw s).then_eq rfl rfl

theorem ecRemoveWp_draws (v : Nat) (s : State) : DrewAtMost 1 s (ecRemoveWp v s).2 := by
  rcases ecRemoveWp_cases v s with ⟨-, e⟩ | ⟨-, -, -, -, e⟩ | ⟨-, -, -, -, -, e⟩ <;> rw [e]
  · exact .takeDraw s
  · exact (DrewAtMost.takeDraw s).then_eq rfl rfl
  · exact (DrewAtMost.takeDraw s).then_eq rfl rfl

theorem dtConfigure_draws (s : State) : DrewAtMost 1 s (dtConfigure s).2 := by
  rcases dtConfigure_cases s with ⟨-, e⟩ | ⟨-, e⟩ <;> rw [e]
  · exact .takeDraw s
  · exact (DrewAtMost.takeDraw s).then_eq rfl rfl

theorem andThen_draws {j k : Nat} {s : State} {r : Status × State} {f : State → Status × State}
    (hr : DrewAtMost j s r.2) (hf : ∀ x, DrewAtMost k x (f x).2) :
    DrewAtMost (j + k) s (andThen r f).2 := by
  unfold andThen
  split
  · exact hr.trans (hf _)
  · exact hr.mono (Nat.le_add_right j k)

/-- A start takes at most four draws (R136). -/
theorem engSetup_draws (s : State) : DrewAtMost 4 s (engSetup s).2 := by
  unfold engSetup
  refine andThen_draws (j := 3) (k := 1) (andThen_draws (j := 2) (k := 1)
    (andThen_draws (j := 1) (k := 1) (ecConfigure_draws _ s) (ecAddWp_draws _)) fun x => ?_)
    dtConfigure_draws
  unfold addActiveFlip
  split
  · exact ecAddWp_draws _ x
  · exact .refl 1 x

theorem directCommand_draws {k : Nat} {p : State → Status × State} {s : State}
    (h : DrewAtMost k s (p s).2) : DrewAtMost k s (directCommand p s) := by
  rcases directCommand_cases p s with ⟨-, e⟩ | ⟨-, e⟩ <;> rw [e]
  · exact .of_eq rfl rfl k
  · exact h.then_eq rfl rfl

/-- A command takes at most four draws. -/
theorem exec_draws {i : Instr} {s t : State} (h : exec i s = .next t) : DrewAtMost 4 s t := by
  cases i <;>
    simp only [exec, execEcConfigure, execEcAddWp, execEcRemoveWp, execEcClear, execEcGetCount,
      execDtConfigure, execDtResetAndStart, execDtStop, execEngStart, execSetDutyCycle,
      execGetDutyCycle, execGetTriggerCount, execGetCycleCount, execGetLastCycleTime,
      execGetFrequency, execTakeApplyResult, execGetStatus, Host.Outcome.next.injEq] at h <;>
    subst h
  case ecConfigure g => exact (directCommand_draws (ecConfigure_draws _ s)).mono (by decide)
  case ecAddWp v => exact (directCommand_draws (ecAddWp_draws v s)).mono (by decide)
  case ecRemoveWp v => exact (directCommand_draws (ecRemoveWp_draws v s)).mono (by decide)
  case dtConfigure => exact (directCommand_draws (dtConfigure_draws s)).mono (by decide)
  case ecClear =>
    refine directCommand_draws ?_
    rcases ecClear_cases s with ⟨-, e⟩ | ⟨-, e⟩ <;> rw [e] <;> exact .of_eq rfl rfl 4
  case dtResetAndStart =>
    refine directCommand_draws ?_
    rcases dtResetAndStart_cases s with ⟨-, e⟩ | ⟨-, e⟩ <;> rw [e] <;> exact .of_eq rfl rfl 4
  case dtStop =>
    refine directCommand_draws ?_
    rcases dtStop_cases s with ⟨-, e⟩ | ⟨-, e⟩ <;> rw [e] <;> exact .of_eq rfl rfl 4
  case engStart =>
    split
    · exact .of_eq (by simp) (by simp) 4
    have := engSetup_draws s
    generalize engSetup s = r at this
    split
    · exact this.then_eq (by simp) (by simp)
    · exact this.then_eq (by simp) (by simp)
  case setDutyCycle v =>
    split
    · exact .of_eq rfl rfl 4
    · rename_i x _
      rcases request_cases x s with ⟨-, e⟩ | ⟨-, -, e⟩ | ⟨-, -, e⟩ <;> rw [e] <;>
        exact .of_eq rfl rfl 4
  case ecGetCount => split <;> exact .of_eq rfl rfl 4
  case getFrequency => split <;> exact .of_eq rfl rfl 4
  case takeApplyResult => split <;> exact .of_eq rfl rfl 4
  all_goals exact .of_eq rfl rfl 4

theorem dcRollback_draws (removed : Bool) (old : Count) (s : State) :
    DrewAtMost 1 s (dcRollback removed old s).2 := by
  rcases dcRollback_cases removed old s with ⟨-, e⟩ | ⟨-, -, e⟩ | ⟨-, -, e⟩ <;> rw [e]
  · exact .refl 1 s
  · exact ecAddWp_draws _ s
  · exact (DrewAtMost.takeDraw s).then_eq rfl rfl

/-- An application takes at most three draws (R140, R141). -/
theorem dcSwap_draws (p : Threshold) (s : State) : DrewAtMost 3 s (dcSwap p s).2 := by
  have half : ∀ (r : Bool) (old : Count) (x : State), DrewAtMost 2 x (dcAddHalf p r old x).2 := by
    intro r old x
    unfold dcAddHalf
    split
    · split
      · exact (ecAddWp_draws _ x).mono (by decide)
      · exact (ecAddWp_draws _ x).trans (dcRollback_draws _ _ _)
    · exact .refl 2 x
  unfold dcSwap
  split
  · split
    · exact (ecRemoveWp_draws _ s).trans (half _ _ _)
    · exact (ecRemoveWp_draws _ s).mono (by decide)
  · exact (half _ _ _).mono (by decide)

/-! ### What the handlers leave of the latches, the schedule and the list -/

/-- What an arm leaves alone. -/
theorem schedule_frame (l : Level) (s : State) :
    (schedule l s).draws = s.draws ∧ (schedule l s).drawCount = s.drawCount ∧
    (schedule l s).deferrals = s.deferrals ∧ (schedule l s).inputs = s.inputs ∧
    (schedule l s).evtFlipPending = s.evtFlipPending ∧
    (schedule l s).evtFullPending = s.evtFullPending ∧
    ((schedule l s).dtEvtPending = true → s.dtEvtPending = true) := by
  rcases schedule_cases l s with ⟨-, e⟩ | ⟨-, e⟩ <;> rw [e] <;> simp

/-- What an application leaves alone. -/
theorem dcApplyPending_frame (s : State) :
    (dcApplyPending s).deferrals = s.deferrals ∧ (dcApplyPending s).inputs = s.inputs ∧
    (dcApplyPending s).evtFlipPending = s.evtFlipPending ∧
    (dcApplyPending s).evtFullPending = s.evtFullPending ∧
    (dcApplyPending s).dtEvtPending = s.dtEvtPending := by
  unfold dcApplyPending
  split
  · simp
  split
  · simp
  · obtain ⟨v, c, f, ds, n, e, -⟩ := dcSwap_frame s.pendingThreshold s
    simp [finishApply, e]

theorem dcApplyPending_draws (s : State) : DrewAtMost 3 s (dcApplyPending s) := by
  unfold dcApplyPending
  split
  · exact .refl 3 s
  split
  · exact .of_eq rfl rfl 3
  · exact (dcSwap_draws _ s).then_eq rfl rfl

/-- What a branch of `WP_SERVICE` leaves alone, and the draws it takes. -/
theorem wpBranch_frame (v : Nat) (s : State) :
    DrewAtMost 3 s (wpBranch v s) ∧
    (wpBranch v s).deferrals = s.deferrals ∧ (wpBranch v s).inputs = s.inputs ∧
    (wpBranch v s).evtFlipPending = s.evtFlipPending ∧
    (wpBranch v s).evtFullPending = s.evtFullPending ∧
    ((wpBranch v s).dtEvtPending = true → s.dtEvtPending = true) := by
  rcases wpBranch_cases v s with ⟨-, -, -, e⟩ | ⟨-, e⟩ | ⟨-, -, e⟩ <;> rw [e]
  · obtain ⟨h1, h2, h3⟩ := schedule_frame .low s
    exact ⟨.of_eq h1 h2 3 h3.1, h3⟩
  · obtain ⟨c, hc⟩ : ∃ c, (ecClear (recordCycle s)).2 = { recordCycle s with ecCount := c } := by
      rcases ecClear_cases (recordCycle s) with ⟨-, e⟩ | ⟨-, e⟩ <;> rw [e]
      exacts [⟨_, rfl⟩, ⟨_, rfl⟩]
    have ha := dcApplyPending_frame { recordCycle s with ecCount := c }
    have hd := dcApplyPending_draws { recordCycle s with ecCount := c }
    unfold fullBranch scheduleBoundary
    rw [hc]
    generalize dcApplyPending { recordCycle s with ecCount := c } = x at ha hd
    obtain ⟨h1, h2, h3, h4, h5, h6, h7⟩ := schedule_frame (boundaryLevel x) x
    obtain ⟨a1, a2, a3, a4, a5⟩ := ha
    refine ⟨?_, h3.trans a1, h4.trans a2, h5.trans a3, h6.trans a4, fun h => ?_⟩
    · exact (hd.eq_then (s := s) rfl rfl).then_eq h1 h2 h3
    · exact a5 ▸ h7 h
  · exact ⟨.refl 3 s, rfl, rfl, rfl, rfl, id⟩

theorem wpService_draws (s : State) : DrewAtMost 3 s (wpService s) := by
  unfold wpService
  rcases enterWatchPoint_cases s with ⟨-, e⟩ | ⟨-, e⟩ <;> rw [e]
  · exact (wpBranch_frame s.evtFlipVal.val _).1.eq_then rfl rfl
  · exact (wpBranch_frame Config.N _).1.eq_then rfl rfl

/-- What `WP_SERVICE` leaves alone; the latch it services is clear, FLIP before FULL. -/
theorem wpService_frame (s : State) :
    (wpService s).deferrals = s.deferrals ∧ (wpService s).inputs = s.inputs ∧
    ((wpService s).dtEvtPending = true → s.dtEvtPending = true) ∧
    (wpService s).evtFlipPending = false ∧
    (wpService s).evtFullPending = (s.evtFlipPending && s.evtFullPending) := by
  unfold wpService
  rcases enterWatchPoint_cases s with ⟨hf, e⟩ | ⟨hf, e⟩ <;> rw [e]
  · obtain ⟨-, h1, h2, h3, h4, h5⟩ := wpBranch_frame s.evtFlipVal.val
      (countTrigger { s with evtFlipPending := false })
    exact ⟨h1, h2, h5, h3, h4.trans (by simp [hf])⟩
  · obtain ⟨-, h1, h2, h3, h4, h5⟩ := wpBranch_frame Config.N
      (countTrigger { s with evtFullPending := false })
    exact ⟨h1, h2, h5, h3.trans hf, h4.trans (by simp [hf])⟩

/-- What `DT_SERVICE` leaves alone; its latch is clear. -/
theorem dtService_frame (s : State) :
    (dtService s).draws = s.draws ∧ (dtService s).drawCount = s.drawCount ∧
    (dtService s).deferrals = s.deferrals ∧ (dtService s).inputs = s.inputs ∧
    (dtService s).evtFlipPending = s.evtFlipPending ∧
    (dtService s).evtFullPending = s.evtFullPending ∧ (dtService s).dtEvtPending = false := by
  unfold dtService
  rcases dtStop_cases (enterExpiry s) with ⟨-, e⟩ | ⟨-, e⟩ <;> rw [e]
  · rcases writePin_cases { enterExpiry s with dtRunning := false } with ⟨-, e⟩ | ⟨_, -, e⟩ <;>
      rw [e] <;> simp
  · rcases writePin_cases (enterExpiry s) with ⟨-, e⟩ | ⟨_, -, e⟩ <;> rw [e] <;> simp

/-! ### One step -/

/-- The step of any label takes at most four draws. -/
theorem fire_draws {l : Label} {s t : State} (h : fire l s = .next t) : DrewAtMost 4 s t := by
  cases l with
  | wpService => cases h; exact (wpService_draws s).mono (by decide)
  | dtService =>
    cases h
    obtain ⟨h1, h2, h3, -⟩ := dtService_frame s
    exact .of_eq h1 h2 4 h3
  | input e =>
    cases e with
    | rise =>
      cases h
      rcases rise_cases s with ⟨-, e⟩ | ⟨-, _, -, ⟨-, -, e⟩ | ⟨-, e⟩⟩ | ⟨-, -, ⟨-, e⟩ | ⟨-, e⟩⟩ <;>
        rw [e] <;> exact .of_eq rfl rfl 4
    | fall => cases h; exact .refl 4 s
    | tick =>
      cases h
      rcases tick_cases s with ⟨-, e⟩ | ⟨-, -, e⟩ | ⟨-, -, e⟩ <;> rw [e] <;> exact .of_eq rfl rfl 4
    | reset => cases h; exact .of_eq rfl rfl 4
    | cmd w =>
      simp only [fire] at h
      rcases command_cases w s with ⟨_, -, e⟩ | ⟨i, -, e⟩ <;> rw [e] at h
      · cases h; exact .of_eq rfl rfl 4
      · exact exec_draws h

theorem step_draws {s t : State} (he : Eager s) (h : step s = .next t) : DrewAtMost 4 s t := by
  unfold Eager at he
  have hd : (spendDeferral s).deferrals = s.deferrals := by
    unfold spendDeferral; split <;> simp [he]
  rcases step_cases h with ⟨-, rfl⟩ | ⟨l, -, h⟩
  · exact .of_eq (by simp) (by simp) 4 hd
  · exact (fire_draws h).eq_then (by simp) (by simp) (by simpa using hd)

/-- In the reference schedule the due handler clears a latch and sets none, and the environment's list
is as it was. -/
theorem due_step {s t : State} (he : Eager s) (hh : handlerEnabled s = true)
    (h : step s = .next t) : Eager t ∧ latchesSet t < latchesSet s ∧ t.inputs = s.inputs := by
  unfold Eager at *
  have hd : (spendDeferral s).deferrals = [] := by simp [spendDeferral, hh, he]
  rcases nextLabel?_cases s with ⟨h' | h', -⟩ | ⟨-, hv, -, hl⟩ | ⟨-, hv, hw, -, hl⟩
  · simp [hh] at h'
  · simp [handlerLags, he] at h'
  · rw [step_of_nextLabel hl] at h
    cases h
    obtain ⟨-, -, h3, h4, h5, h6, h7⟩ := dtService_frame (spendDeferral s)
    simp only [consume, latchesSet, h3, h4, h5, h6, h7, hd, hv]
    simp
  · rw [step_of_nextLabel hl] at h
    cases h
    obtain ⟨h1, h2, h3, h4, h5⟩ := wpService_frame (spendDeferral s)
    have h6 : (wpService (spendDeferral s)).dtEvtPending = false := by
      rw [Bool.eq_false_iff]
      intro hx
      simpa [hv] using h3 hx
    simp only [spendDeferral_inputs, spendDeferral_evtFlipPending, spendDeferral_evtFullPending]
      at h2 h5
    refine ⟨h1.trans hd, ?_, h2⟩
    simp only [consume, latchesSet, h4, h5, h6, hv]
    rcases hw with hw | hw <;> simp [hw]

/-! ### One step of a trace -/

/-- Settling takes at most four draws for each handler step. -/
theorem settle_draws {k : Nat} {s t : State} (he : Eager s) (h : settle k s = .next t) :
    DrewAtMost (4 * k) s t := by
  induction k generalizing s with
  | zero => cases h; exact .refl 0 _
  | succ k ih =>
    simp only [settle] at h
    split at h
    · split at h
      · rename_i x hx
        have hd := step_draws he hx
        exact (hd.trans (ih (hd.1.trans he) h)).mono (by omega)
      · cases h
      · cases h
    · cases h; exact .refl _ _

/-- Settling as often as latches are set leaves no handler due. -/
theorem settle_quiet {k : Nat} {s t : State} (he : Eager s) (hk : latchesSet s ≤ k)
    (h : settle k s = .next t) : Quiet t ∧ t.inputs = s.inputs := by
  induction k generalizing s with
  | zero =>
    cases h
    refine ⟨(handlerEnabled_eq_false_iff _).2 fun _ => ?_, rfl⟩
    revert hk
    unfold latchesSet
    cases t.dtEvtPending <;> cases t.evtFlipPending <;> cases t.evtFullPending <;> simp
  | succ k ih =>
    simp only [settle] at h
    split at h
    · rename_i hh
      split at h
      · rename_i x hx
        obtain ⟨h1, h2, h3⟩ := due_step he hh hx
        obtain ⟨h4, h5⟩ := ih h1 (by omega) h
        exact ⟨h4, h5.trans h3⟩
      · cases h
      · cases h
    · rename_i hh
      cases h
      exact ⟨Bool.eq_false_iff.2 hh, rfl⟩

theorem latchesSet_le (s : State) : latchesSet s ≤ 3 := by
  unfold latchesSet
  cases s.dtEvtPending <;> cases s.evtFlipPending <;> cases s.evtFullPending <;> simp

/-- What a step of a trace is: the environment's step and the handler steps after it, on the draws
listed and zeros. -/
theorem traceStep_cases {listed : List Bool} {e : Input} {s t : State}
    (h : traceStep listed e s = .next t) :
    ∃ u v, fire (.input e) (openTraceStep listed s) = .next u ∧ settle 3 u = .next v ∧
      t = closeTraceStep s v := by
  unfold traceStep at h
  split at h
  · rename_i u hu
    split at h
    · rename_i v hv
      cases h
      exact ⟨u, v, hu, hv, rfl⟩
    · cases h
    · cases h
  · cases h
  · cases h

/-- All draws of a step of a trace are listed ones or zeros: it takes no more than there are. So the
free stream of draws never comes in. -/
theorem traceStep_draws {listed : List Bool} {e : Input} {s t : State}
    (h : traceStep listed e s = .next t) :
    ∃ n ≤ drawsPerTraceStep, n ≤ (traceDraws listed).length ∧ t.drawCount = s.drawCount + n ∧
      ∃ v, t = closeTraceStep s v ∧ v.draws = (traceDraws listed).drop n := by
  obtain ⟨u, v, hu, hv, rfl⟩ := traceStep_cases h
  have hf := fire_draws hu
  obtain ⟨-, n, hn, hd, hc⟩ := hf.trans (settle_draws hf.1 hv)
  have hlen : drawsPerTraceStep ≤ (traceDraws listed).length := by simp [traceDraws]
  have h16 : n ≤ drawsPerTraceStep := by unfold drawsPerTraceStep; omega
  exact ⟨n, h16, Nat.le_trans h16 hlen, hc, v, rfl, hd⟩

/-- After a step of a trace no handler is due: the reference schedule has run them all (R9). -/
theorem traceStep_quiet {listed : List Bool} {e : Input} {s t : State}
    (h : traceStep listed e s = .next t) : Quiet t := by
  obtain ⟨u, v, hu, hv, rfl⟩ := traceStep_cases h
  exact (settle_quiet (fire_draws hu).1 (latchesSet_le u) hv).1

/-- A draw beyond those listed is 0 (R14). -/
theorem traceDraws_unlisted (listed : List Bool) (k : Nat) (h : listed.length ≤ k) :
    (traceDraws listed).getD k false = false := by
  unfold traceDraws
  rw [List.getD_append_right _ _ _ _ h]
  simp only [List.getD_eq_getElem?_getD, List.getElem?_replicate]
  split <;> rfl

/-- A listed draw is the one listed. -/
theorem traceDraws_listed (listed : List Bool) (k : Nat) (h : k < listed.length) :
    (traceDraws listed).getD k false = listed[k] := by
  unfold traceDraws
  rw [List.getD_append _ _ _ _ h, List.getD_eq_getElem _ _ h]

/-- Draws that a step does not take do not come in later: after it the draws to come are what they
were before it (R14). -/
theorem traceStep_drops {listed : List Bool} {e : Input} {s t : State}
    (h : traceStep listed e s = .next t) : t.draws = s.draws := by
  obtain ⟨u, v, -, -, rfl⟩ := traceStep_cases h
  rfl

/-- An `INJ` before a step lists its draws for that step and for no other. -/
theorem traceSteps_inject (bits : List Bool) (i : Instr) (rest : List TraceItem) :
    traceSteps [] (.inject bits :: .command i :: rest) =
      (bits, commandStep i) :: traceSteps [] rest := rfl

/-- Without an `INJ` a step has no draw listed: all its draws are 0. -/
theorem traceSteps_command (i : Instr) (rest : List TraceItem) :
    traceSteps [] (.command i :: rest) = ([], commandStep i) :: traceSteps [] rest := rfl

end Sys2Proof.Machine
end

