-- ==== Sys2Proof/Tests/Slice0.lean ====
section
/-! SUPPORT. The model's own tests: expected values are those the spec prints (spec/95_test_vectors.md and the rules' examples); and a witness for the hypotheses of every statement. -/

namespace Sys2Proof.Tests

open Sys2Proof Sys2Proof.Machine

/-! ### Small states -/

/-- The state after an outcome. -/
def next? : Host.Outcome State Fault Refusal → Option State
  | .next t => some t
  | .fault _ => none
  | .refused _ => none

/-- The response of a command. -/
def answer (o : Host.Outcome State Fault Refusal) : Option (Status × Word) :=
  (next? o).map fun t => (t.respStatus, t.respData)

/-- One reading of the state after an outcome. -/
def seen {α : Type} (o : Host.Outcome State Fault Refusal) (f : State → α) : Option α :=
  (next? o).map f

/-- Draws of 0 (the vectors' default), as many as a step can take. -/
def zeros : List Bool := [false, false, false, false]

/-- Both peripherals configured, the engine IDLE. -/
def bare : State := { State.reset with ecConfigured := true, dtConfigured := true, draws := zeros }

/-- RUNNING at threshold 10, as `ENG_START` leaves it. -/
def run10 : State :=
  { bare with
    engState := .running, activeThreshold := 10, wpFlipValid := true, wpFlipVal := 10
    wpFullValid := true }

/-- `s` with the environment's next step. -/
def facing (e : Input) (s : State) : State := { s with inputs := [e] }

/-- A FLIP event latched in `run10`. -/
def flipDue : State := { run10 with ecCount := 10, evtFlipPending := true, evtFlipVal := 10 }

/-- A FULL event latched in `run10`, 200000 microseconds after the one before. -/
def fullDue : State :=
  { run10 with evtFullPending := true, now := 400000, prevFullTs := 200000, prevFullValid := true }

/-- The same with a request for 5 pending. -/
def applyDue : State := { fullDue with pendingValid := true, pendingThreshold := 5 }

/-- The same after a failed restore: no FLIP point. -/
def applyUnrestored : State :=
  { applyDue with wpFlipValid := false, faultFlipUnrestored := true }

/-- An expiry latched in `run10` with the intent HIGH. -/
def expiryDue : State := { run10 with dtEvtPending := true, dtCount := 2000, pol := some .high }

/-- `run10` just after the boundary at `now = 0`. -/
def afterBoundary : State := { run10 with pol := some .high, dtRunning := true }

/-! ### WellFormed: each check refuses an ill-formed term -/

theorem test_wellFormed_refuses_glitch : (Instr.ecConfigure (2 ^ 24)).wellFormed = false := by decide

theorem test_wellFormed_refuses_add : (Instr.ecAddWp (2 ^ 24)).wellFormed = false := by decide

theorem test_wellFormed_refuses_remove : (Instr.ecRemoveWp (2 ^ 24)).wellFormed = false := by decide

theorem test_wellFormed_refuses_duty :
    (Instr.setDutyCycle (2 ^ 23)).wellFormed = false ∧
    (Instr.setDutyCycle (-(2 ^ 23) - 1)).wellFormed = false := by decide

/-! ### Decoding: the words of spec/95_test_vectors.md section 3 -/

theorem test_decode_edge_counter :
    decode 0x100003E8 = .ok (.ecConfigure 1000) ∧
    decode 0x10FFFFFF = .ok (.ecConfigure 16777215) ∧
    decode 0x1100000A = .ok (.ecAddWp 10) ∧
    decode 0x11000014 = .ok (.ecAddWp 20) ∧
    decode 0x1200000A = .ok (.ecRemoveWp 10) ∧
    decode 0x13000000 = .ok .ecClear ∧
    decode 0x14000000 = .ok .ecGetCount := by decide

theorem test_decode_delay_actuator :
    decode 0x20000000 = .ok .dtConfigure ∧
    decode 0x21000000 = .ok .dtResetAndStart ∧
    decode 0x22000000 = .ok .dtStop := by decide

theorem test_decode_duty_cycle :
    decode 0x30000000 = .ok .engStart ∧
    decode 0x3100000A = .ok (.setDutyCycle 10) ∧
    decode 0x31FFFFFF = .ok (.setDutyCycle (-1)) ∧
    decode 0x317FFFFF = .ok (.setDutyCycle 8388607) ∧
    decode 0x31800000 = .ok (.setDutyCycle (-8388608)) ∧
    decode 0x32000000 = .ok .getDutyCycle := by decide

theorem test_decode_statistics :
    decode 0x40000000 = .ok .getTriggerCount ∧
    decode 0x41000000 = .ok .getCycleCount ∧
    decode 0x42000000 = .ok .getLastCycleTime ∧
    decode 0x43000000 = .ok .getFrequency ∧
    decode 0x44000000 = .ok .takeApplyResult ∧
    decode 0x45000000 = .ok .getStatus := by decide

theorem test_decode_illegal :
    decode 0x00000000 = .error (.unknownOp 0x00) ∧
    decode 0x15000000 = .error (.unknownOp 0x15) ∧
    decode 0x46000000 = .error (.unknownOp 0x46) ∧
    decode 0xFFFFFFFF = .error (.unknownOp 0xFF) ∧
    decode 0x30000001 = .error (.nonZeroField 0x30 1) ∧
    decode 0x13000001 = .error (.nonZeroField 0x13 1) ∧
    decode 0x45FFFFFF = .error (.nonZeroField 0x45 0xFFFFFF) := by decide

/-- R63: `0x3100000A` is the bytes `0A 00 00 31`. -/
theorem test_bytes :
    wordBytes 0x3100000A = [0x0A, 0x00, 0x00, 0x31] ∧
    decodeBytes [0x0A, 0x00, 0x00, 0x31] = .ok (.setDutyCycle 10) ∧
    decodeBytes [0x0A, 0x00, 0x31] = .error (.wrongLength 3) := by decide

theorem test_decodeTableWord :
    decodeTableWord 32 0x1100000A = some (.ecAddWp 10) ∧
    decodeTableWord 32 0x30000001 = none := by decide

theorem test_assemble :
    assemble "SET_DUTY_CYCLE" (some (-1)) = some 0x31FFFFFF ∧
    assemble "SET_DUTY_PERCENT" (some 50) = some 0x3100000A ∧
    assemble "SET_DUTY_PERCENT" (some 52) = none ∧
    assemble "REQUEST_DUTY_CYCLE" (some 10) = some 0x3100000A ∧
    assemble "EC_ADD_WP" (some (-1)) = none := by decide

/-- R94's syntax: a decimal or `0x` value, possibly negative; a Format Z mnemonic takes none. -/
theorem test_assembleText :
    assembleText "SET_DUTY_CYCLE -1" = some 0x31FFFFFF ∧
    assembleText "EC_ADD_WP 0x14" = some 0x11000014 ∧
    assembleText "ENG_START" = some 0x30000000 ∧
    assembleText "ENG_START 1" = none := by decide

/-- The numbers of R83. -/
theorem test_status_codes :
    Status.ok.code = 0 ∧ Status.invalidArg.code = 1 ∧ Status.invalidState.code = 2 ∧
    Status.hwFail.code = 3 ∧ Status.unknownOp.code = 4 ∧ Status.notValid.code = 5 := by decide

/-! ### A placed word runs next, also from reset and with a handler due -/

theorem test_placed_from_reset :
    answer (step (State.reset.withFetchWord 32 0x45000000)) = some (.ok, 0) := by decide

theorem test_placed_before_handler :
    answer (step (flipDue.withFetchWord 32 0x14000000)) = some (.ok, 10) ∧
    seen (step (flipDue.withFetchWord 32 0x14000000)) (·.evtFlipPending) = some true := by decide

/-! ### One step each: Edge Counter (V-EC1, V-EC2) -/

theorem test_ecConfigure :
    seen (exec (.ecConfigure 0) { bare with ecCount := 12, evtFlipPending := true, wpFlipValid := true })
      (fun t => (t.ecCount, t.wpFlipValid, t.evtFlipPending, t.respStatus)) =
      some (0, false, false, .ok) := by decide

theorem test_ecConfigure_drawn :
    seen (exec (.ecConfigure 7) { bare with draws := [true], evtFullPending := true })
      (fun t => (t.evtFullPending, t.draws, t.respStatus)) = some (true, [], .hwFail) := by decide

theorem test_ecAddWp :
    seen (exec (.ecAddWp 10) { bare with ecCount := 10 })
      (fun t => (t.wpFlipValid, t.wpFlipVal, t.evtFlipPending, t.respStatus)) =
      some (true, 10, false, .ok) := by decide

theorem test_ecAddWp_no_slot :
    answer (exec (.ecAddWp 11) { bare with wpFlipValid := true, wpFlipVal := 10 }) = some (.hwFail, 0) ∧
    answer (exec (.ecAddWp 0) bare) = some (.invalidArg, 0) ∧
    answer (exec (.ecAddWp 21) bare) = some (.invalidArg, 0) := by decide

theorem test_ecRemoveWp :
    seen (exec (.ecRemoveWp 10) { bare with wpFlipValid := true, wpFlipVal := 10, evtFlipPending := true })
      (fun t => (t.wpFlipValid, t.evtFlipPending, t.respStatus)) = some (false, true, .ok) := by decide

theorem test_ecRemoveWp_other :
    answer (exec (.ecRemoveWp 11) { bare with wpFlipValid := true, wpFlipVal := 10 }) =
      some (.invalidState, 0) ∧
    answer (exec (.ecRemoveWp 20) bare) = some (.invalidState, 0) := by decide

theorem test_ecClear :
    seen (exec .ecClear { bare with ecCount := 7, wpFlipValid := true, wpFlipVal := 7 })
      (fun t => (t.ecCount, t.wpFlipValid, t.evtFlipPending, t.respStatus)) =
      some (0, true, false, .ok) := by decide

theorem test_ecGetCount :
    answer (exec .ecGetCount { run10 with ecCount := 12 }) = some (.ok, 12) ∧
    answer (exec .ecGetCount State.reset) = some (.invalidState, 0) := by decide

theorem test_rise_wraps :
    seen (step (facing .rise { bare with ecCount := 19, wpFullValid := true }))
      (fun t => (t.ecCount, t.evtFullPending)) = some (0, true) ∧
    seen (step (facing .rise { bare with ecCount := 19 }))
      (fun t => (t.ecCount, t.evtFullPending)) = some (0, false) := by decide

theorem test_rise_flips :
    seen (step (facing .rise { bare with ecCount := 9, wpFlipValid := true, wpFlipVal := 10 }))
      (fun t => (t.ecCount, t.evtFlipPending, t.evtFlipVal)) = some (10, true, 10) ∧
    seen (step (facing .rise { bare with ecCount := 9, wpFlipValid := true, wpFlipVal := 11 }))
      (fun t => (t.ecCount, t.evtFlipPending)) = some (10, false) := by decide

/-! ### Delay Actuator (V-DT1, V-DT2) -/

theorem test_dtConfigure :
    seen (exec .dtConfigure { bare with dtEvtPending := true, dtCount := 2000 })
      (fun t => (t.dtEvtPending, t.dtCount, t.respStatus)) = some (false, 0, .ok) := by decide

theorem test_dtResetAndStart :
    seen (exec .dtResetAndStart { bare with dtEvtPending := true, dtCount := 2000 })
      (fun t => (t.dtRunning, t.dtCount, t.dtEvtPending, t.respStatus)) =
      some (true, 0, false, .ok) := by decide

theorem test_dtStop :
    seen (exec .dtStop { bare with dtRunning := true, dtCount := 500 })
      (fun t => (t.dtRunning, t.dtCount, t.respStatus)) = some (false, 500, .ok) ∧
    seen (exec .dtStop { bare with dtEvtPending := true }) (·.dtEvtPending) = some true := by decide

theorem test_tick_expires :
    seen (step (facing .tick { bare with dtRunning := true, dtCount := 1999 }))
      (fun t => (t.now, t.dtCount, t.dtRunning, t.dtEvtPending)) = some (1, 2000, false, true) := by
  decide

theorem test_tick_wraps :
    seen (step (facing .tick { bare with now := BitVec.allOnes 64, dtCount := 2000 }))
      (fun t => (t.now, t.dtCount, t.dtEvtPending)) = some (0, 2000, false) := by decide

/-! ### Duty-Cycle Controller (R136, R138, V-DC1, V-DC2) -/

theorem test_engStart :
    seen (exec .engStart { bare with activeThreshold := 10 })
      (fun t => (statusWord t, t.draws, t.respStatus)) = some (0xC0005501, [], .ok) := by decide

/-- R136: the third call fails, the fourth is not made. -/
theorem test_engStart_fails :
    seen (exec .engStart { State.reset with activeThreshold := 10, draws := [false, false, true, false] })
      (fun t => (statusWord t, t.draws, t.respStatus)) = some (0x00000002, [false], .hwFail) := by decide

theorem test_setDutyCycle :
    seen (exec (.setDutyCycle 5) run10)
      (fun t => (t.pendingValid, t.pendingThreshold, t.activeThreshold, t.respStatus)) =
      some (true, 5, 10, .ok) ∧
    seen (exec (.setDutyCycle 10) { run10 with pendingValid := true, pendingThreshold := 7 })
      (fun t => statusWord t) = some 0xC0005501 := by decide

theorem test_setDutyCycle_range :
    answer (exec (.setDutyCycle (-1)) bare) = some (.invalidArg, 0) ∧
    answer (exec (.setDutyCycle 21) bare) = some (.invalidArg, 0) ∧
    seen (exec (.setDutyCycle 20) bare) (·.activeThreshold) = some 20 := by decide

theorem test_getDutyCycle :
    answer (exec .getDutyCycle run10) = some (.ok, 0x0000320A) ∧
    answer (exec .getDutyCycle { bare with activeThreshold := 20 }) = some (.ok, 0x00006414) := by decide

/-! ### Timing Engine (R157, R158, R165, V-DC3, V-TE1) -/

theorem test_flip_service :
    seen (step flipDue) (fun t => (t.pol, t.dtRunning, t.dtCount, t.triggerCount, t.out)) =
      some (some .low, true, 0, 1, .low) := by decide

theorem test_full_service :
    seen (step fullDue) (fun t => (t.lastCycleTimeUs, t.cycleCount, t.pol)) =
      some (200000, 1, some .high) := by decide

/-- R140, R141: the addition fails and the old point is put back. -/
theorem test_apply_rolls_back :
    seen (step { applyDue with draws := [false, true, false] })
      (fun t => (t.activeThreshold, t.wpFlipValid, t.wpFlipVal, t.lastApplyResult)) =
      some (10, true, 10, .failRolledBack) := by decide

theorem test_expiry_service :
    seen (step expiryDue) (fun t => (t.out, t.pol, t.dtEvtPending)) = some (.high, none, false) := by
  decide

/-! ### Statistics, notification, status (V-ST1, V-ST4) -/

theorem test_counter_reads :
    answer (exec .getTriggerCount { bare with triggerCount := 2 }) = some (.ok, 2) ∧
    answer (exec .getCycleCount { bare with cycleCount := 1 }) = some (.ok, 1) ∧
    answer (exec .getLastCycleTime { bare with lastCycleTimeUs := 200000 }) = some (.ok, 0x00030D40) := by
  decide

theorem test_getFrequency :
    answer (exec .getFrequency { bare with lastCycleValid := true, lastCycleTimeUs := 166660 }) =
      some (.ok, 0x0000EA62) ∧
    answer (exec .getFrequency bare) = some (.notValid, 0) := by decide

theorem test_freqMilliHz :
    freqMilliHz 200000 = 50000 ∧ freqMilliHz 166667 = 59999 ∧ freqMilliHz 10000 = 1000000 ∧
    freqMilliHz 2 = 0xFFFFFFFF ∧ freqMilliHz 3 = 3333333333 ∧ freqMilliHz 0xFFFFFFFF = 2 ∧
    freqMilliHz 0 = 0xFFFFFFFF := by decide

theorem test_takeApplyResult :
    seen (exec .takeApplyResult { bare with applyEventPending := true, lastApplyResult := .ok })
      (fun t => (t.respStatus, t.respData, t.applyEventPending, t.lastApplyResult)) =
      some (.ok, 1, false, .none) := by decide

theorem test_getStatus :
    answer (exec .getStatus State.reset) = some (.ok, 0) ∧
    answer (exec .getStatus { run10 with pendingValid := true, pendingThreshold := 7 }) =
      some (.ok, 0xC01E5501) ∧
    answer (exec .getStatus
        { bare with
          wpFlipValid := true, wpFlipVal := 10, wpFullValid := true, dtConfigured := false
          evtFlipPending := true, evtFullPending := true, faultWpOverrun := true }) =
      some (.ok, 0x4801D500) := by decide

/-! ### Traces (R14) -/

/-- V-DT1: a draw listed for the next command fails it; with none listed the draw is 0. -/
theorem test_trace_inject :
    answer (runTrace [.reset, .inject [true], .command .dtConfigure] State.reset) =
      some (.hwFail, 0) ∧
    answer (runTrace [.reset, .inject [true], .command .dtConfigure, .command .dtConfigure]
      State.reset) = some (.ok, 0) := by decide

/-- V-DC2 at threshold 0: the third draw is that of `DT.configure`. -/
theorem test_trace_engStart :
    answer (runTrace [.reset, .inject [false, false, true], .command .engStart] State.reset) =
      some (.hwFail, 0) ∧
    answer (runTrace [.reset, .command .engStart] State.reset) = some (.ok, 0) := by decide

/-- R14: a listed draw that the next step does not take is not there for the one after it, whatever
draws were to come. -/
theorem test_trace_inject_drops :
    answer (runTrace [.inject [false, true], .command (.ecConfigure 0), .command .dtConfigure]
      { State.reset with draws := [true] }) = some (.ok, 0) := by decide

/-- V-DC3, P3: the draws listed before the boundary's edge are those of its FULL service. -/
theorem test_trace_inject_edge :
    seen (runTrace [.inject [false, true, false], .rise]
        { run10 with ecCount := 19, pendingValid := true, pendingThreshold := 5 })
      (fun t => (t.activeThreshold, t.wpFlipVal, t.lastApplyResult, t.pol)) =
      some (10, 10, .failRolledBack, some .high) := by decide

/-- `T n` and `E+ xk every d`, two edges 3 microseconds apart. -/
theorem test_trace_items :
    seen (runTrace [.ticks 2, .risesEvery 2 3, .fall] bare) (fun t => (t.now, t.ecCount)) =
      some (8, 2) := by decide

/-! ### Witnesses: a state and operands that meet the hypotheses of each statement -/

theorem witness_StepRunsThePresentedCommand :
    (facing (.cmd 0x13000000) bare).inputs = .cmd 0x13000000 :: [] ∧
    decode 0x13000000 = .ok .ecClear ∧
    handlerEnabled (facing (.cmd 0x13000000) bare) = false := by decide

theorem witness_StepRunsThePresentedCommand_lagging :
    (facing (.cmd 0x45000000) { flipDue with deferrals := [true] }).inputs = .cmd 0x45000000 :: [] ∧
    decode 0x45000000 = .ok .getStatus ∧
    handlerEnabled (facing (.cmd 0x45000000) { flipDue with deferrals := [true] }) = true ∧
    (facing (.cmd 0x45000000) { flipDue with deferrals := [true] }).deferrals = true :: [] := by decide

theorem witness_IllegalWordAnswersUnknownOp :
    (∀ row ∈ opcodeTable, row.selectedBy 0x30000001 = false) ∧
    (∀ row ∈ opcodeTable, row.selectedBy 0x46000000 = false) ∧
    nextLabel? (facing (.cmd 0x46000000) bare) = some (.input (.cmd 0x46000000)) := by decide

theorem witness_DecodeOfEncode :
    (Instr.ecAddWp (2 ^ 24 - 1)).wellFormed = true ∧
    (Instr.setDutyCycle (-(2 ^ 23))).wellFormed = true ∧ Instr.getStatus.wellFormed = true := by decide

theorem witness_EncodeOfDecode : decode 0x31800000 = .ok (.setDutyCycle (-8388608)) := by decide

theorem witness_DecoderFollowsOpcodeTable :
    decode 0x45000000 = .ok .getStatus ∧
    (⟨"GET_STATUS", .Z, 0x45000000, 0xFFFFFFFF⟩ : Row) ∈ opcodeTable ∧
    (⟨"GET_STATUS", .Z, 0x45000000, 0xFFFFFFFF⟩ : Row).selectedBy 0x45000000 = true := by decide

theorem witness_AssembledWordDecodes :
    assemble "SET_DUTY_CYCLE" (some (-8388608)) = some 0x31800000 ∧
    assemble "EC_REMOVE_WP" (some 16777215) = some 0x12FFFFFF ∧
    assemble "GET_STATUS" none = some 0x45000000 ∧
    (Instr.ecAddWp (2 ^ 24 - 1)).wellFormed = true ∧
    (-(2 ^ 23) - 1 : Int) < -(2 ^ 23) ∧ (2 ^ 23 : Int) ≤ 2 ^ 23 ∧
    (-1 : Int) < 0 ∧ (2 ^ 24 : Int) ≤ 2 ^ 24 ∧
    "NOP" ≠ "REQUEST_DUTY_CYCLE" ∧ "NOP" ≠ "SET_DUTY_PERCENT" ∧
    "NOP" ∉ ["EC_CONFIGURE", "EC_ADD_WP", "EC_REMOVE_WP", "EC_CLEAR", "EC_GET_COUNT", "DT_CONFIGURE",
      "DT_RESET_AND_START", "DT_STOP", "ENG_START", "SET_DUTY_CYCLE", "GET_DUTY_CYCLE",
      "GET_TRIGGER_COUNT", "GET_CYCLE_COUNT", "GET_LAST_CYCLE_TIME", "GET_FREQUENCY",
      "TAKE_APPLY_RESULT", "GET_STATUS"] := by decide

theorem witness_EcConfigure :
    (2 ^ 24 - 1 : Nat) < 2 ^ 24 ∧ run10.engState = .running ∧
    bare.engState ≠ .running ∧ { bare with draws := [true] }.nextDraw = true ∧
    bare.nextDraw = false := by decide

theorem witness_EcAddWp_refused :
    run10.engState = .running ∧
    bare.engState ≠ .running ∧ { bare with draws := [true] }.nextDraw = true ∧
    { State.reset with draws := zeros }.engState ≠ .running ∧
    { State.reset with draws := zeros }.nextDraw = false ∧
    { State.reset with draws := zeros }.ecConfigured = false ∧
    bare.nextDraw = false ∧ bare.ecConfigured = true ∧
    (0 : Nat) = 0 ∧ (20 : Nat) < 21 := by decide

theorem witness_EcAddWp_slots :
    { bare with wpFullValid := true }.engState ≠ .running ∧
    { bare with wpFullValid := true }.nextDraw = false ∧
    { bare with wpFullValid := true }.ecConfigured = true ∧
    { bare with wpFullValid := true }.wpFullValid = true ∧ bare.wpFullValid = false ∧
    0 < (1 : Count).val ∧ 0 < (19 : Count).val ∧ bare.wpFlipValid = false ∧
    { bare with wpFlipValid := true, wpFlipVal := 19 }.wpFlipVal = 19 ∧
    { bare with wpFlipValid := true, wpFlipVal := 19 }.wpFlipVal ≠ 1 ∧
    { bare with wpFlipValid := true, wpFlipVal := 19 }.nextDraw = false := by decide

/-- The hypotheses of `EC_REMOVE_WP` are those of `EC_ADD_WP` with the slots the other way round. -/
theorem witness_EcRemoveWp :
    bare.engState ≠ .running ∧ bare.nextDraw = false ∧ bare.ecConfigured = true ∧
    bare.wpFullValid = false ∧ { bare with wpFullValid := true }.wpFullValid = true ∧
    { bare with wpFullValid := true }.nextDraw = false ∧
    0 < (1 : Count).val ∧ 0 < (19 : Count).val ∧ bare.wpFlipValid = false ∧
    { bare with wpFlipValid := true, wpFlipVal := 19 }.wpFlipVal ≠ 1 ∧
    { bare with wpFlipValid := true, wpFlipVal := 19 }.wpFlipValid = true ∧
    { bare with wpFlipValid := true, wpFlipVal := 19 }.wpFlipVal = 19 ∧
    { bare with draws := [true] }.nextDraw = true ∧
    { State.reset with draws := zeros }.ecConfigured = false ∧
    { State.reset with draws := zeros }.nextDraw = false := by decide

theorem witness_EcClear :
    run10.engState = .running ∧ State.reset.ecConfigured = false ∧
    bare.engState ≠ .running ∧ bare.ecConfigured = true := by decide

theorem witness_EcGetCount : State.reset.ecConfigured = false ∧ run10.ecConfigured = true := by decide

theorem witness_RiseCountsAndLatches :
    nextLabel? (facing .rise State.reset) = some (.input .rise) ∧
    (facing .rise State.reset).ecConfigured = false ∧
    nextLabel? (facing .rise { run10 with ecCount := 19 }) = some (.input .rise) ∧
    { run10 with ecCount := 19 }.ecCount.val = 19 ∧ run10.wpFullValid = true ∧
    nextLabel? (facing .rise { bare with ecCount := 19 }) = some (.input .rise) ∧
    bare.wpFullValid = false := by decide

theorem witness_RiseCountsAndLatches_below :
    nextLabel? (facing .rise { run10 with ecCount := 9 }) = some (.input .rise) ∧
    (10 : Count).val = { run10 with ecCount := 9 }.ecCount.val + 1 ∧
    run10.ecConfigured = true ∧ run10.wpFlipValid = true ∧ run10.wpFlipVal = 10 ∧
    nextLabel? (facing .rise { run10 with ecCount := 18 }) = some (.input .rise) ∧
    (19 : Count).val = { run10 with ecCount := 18 }.ecCount.val + 1 ∧ run10.wpFlipVal ≠ 19 := by decide

theorem witness_FallChangesNothing :
    nextLabel? (facing .fall run10) = some (.input .fall) := by decide

theorem witness_DtConfigure :
    run10.engState = .running ∧ bare.engState ≠ .running ∧
    { bare with draws := [true] }.nextDraw = true ∧ bare.nextDraw = false := by decide

theorem witness_DtResetAndStart_DtStop :
    run10.engState = .running ∧ State.reset.dtConfigured = false ∧
    bare.engState ≠ .running ∧ bare.dtConfigured = true := by decide

theorem witness_TickAdvancesClockAndTimer :
    nextLabel? (facing .tick bare) = some (.input .tick) ∧ bare.dtRunning = false ∧
    nextLabel? (facing .tick { bare with dtRunning := true, dtCount := 1998 }) = some (.input .tick) ∧
    { bare with dtRunning := true, dtCount := 1998 }.dtCount + 1 ≠ 2000 ∧
    nextLabel? (facing .tick { bare with dtRunning := true, dtCount := 1999 }) = some (.input .tick) ∧
    { bare with dtRunning := true, dtCount := 1999 }.dtCount + 1 = 2000 := by decide

/-- The arm of `afterBoundary` with 2000 ticks and an edge to come. -/
def armAhead : State := { afterBoundary with inputs := ticks 2000 ++ [Input.rise] }

theorem witness_ExpiryComesExactly2000TicksAfterArm :
    armAhead.dtRunning = true ∧ armAhead.dtCount = 0 ∧ armAhead.dtEvtPending = false ∧
    Quiet armAhead ∧ armAhead.inputs = ticks 2000 ++ [Input.rise] := by
  refine ⟨rfl, rfl, rfl, ?_, ?_⟩
  · rfl
  · unfold armAhead; rfl

/-- A stopped timer with three ticks and an edge to come. -/
def stoppedAhead : State := { run10 with inputs := ticks 3 ++ [Input.rise] }

theorem witness_StoppedTimerNeverExpires :
    stoppedAhead.dtRunning = false ∧ Quiet stoppedAhead ∧
    stoppedAhead.inputs = ticks 3 ++ [Input.rise] := ⟨rfl, rfl, rfl⟩

theorem witness_EngStartArmsTheEngine :
    { bare with activeThreshold := 19 }.engState = .idle ∧
    0 < { bare with activeThreshold := 19 }.activeThreshold.val ∧
    { bare with activeThreshold := 19 }.activeThreshold.val < 20 ∧
    (∀ k < 4, drawAt { bare with activeThreshold := 19 } k = false) ∧
    (19 : Count).val = { bare with activeThreshold := 19 }.activeThreshold.val ∧
    (1 : Count).val = { bare with activeThreshold := 1 }.activeThreshold.val ∧
    bare.engState = .idle ∧ bare.activeThreshold.val = 0 ∧ (∀ k < 3, drawAt bare k = false) ∧
    { bare with activeThreshold := 20 }.activeThreshold.val = 20 := by decide

theorem witness_EngStartFailureIsFatal :
    run10.engState ≠ .idle ∧
    { bare with activeThreshold := 10, draws := [false, false, false, true] }.engState = .idle ∧
    { bare with activeThreshold := 10, draws := [false, false, false, true] }.draws =
      List.replicate 3 false ++ true :: [] ∧
    3 < (if 0 < { bare with activeThreshold := 10 }.activeThreshold.val ∧
        { bare with activeThreshold := 10 }.activeThreshold.val < 20 then 4 else 3) ∧
    { bare with draws := [true] }.draws = List.replicate 0 false ++ true :: [] ∧
    0 < (if 0 < bare.activeThreshold.val ∧ bare.activeThreshold.val < 20 then 4 else 3) := by decide

theorem witness_SetDutyCycle :
    (-1 : Int) < 0 ∧ (20 : Int) < 21 ∧ bare.engState ≠ .running ∧
    run10.engState = .running ∧ (10 : Threshold) = run10.activeThreshold ∧
    (0 : Threshold) ≠ run10.activeThreshold ∧ (20 : Threshold) ≠ run10.activeThreshold := by decide

/-- `run10` and the states built from it meet R35's invariants. -/
theorem witness_invariants_run10 : Invariants run10 := by constructor <;> decide

theorem witness_invariants_applyDue : Invariants applyDue := by constructor <;> decide

theorem witness_invariants_applyUnrestored : Invariants applyUnrestored := by constructor <;> decide

theorem witness_invariants_afterBoundary : Invariants afterBoundary := by constructor <;> decide

theorem witness_BoundaryAppliesTheRequest :
    Invariants applyDue ∧ FlipFollowsActive applyDue ∧ nextLabel? applyDue = some .wpService ∧
    applyDue.evtFlipPending = false ∧ applyDue.pendingValid = true ∧ swapDraws applyDue = 2 ∧
    (∀ k < swapDraws applyDue, drawAt applyDue k = false) ∧
    0 < applyDue.pendingThreshold.val ∧ applyDue.pendingThreshold.val < 20 :=
  ⟨witness_invariants_applyDue, fun _ _ => rfl, by decide, rfl, rfl, by decide, by decide, by decide,
    by decide⟩

/-- A request for 20 that has nothing to remove and nothing to add: no draw. -/
theorem witness_BoundaryAppliesTheRequest_no_draw :
    Invariants { applyUnrestored with pendingThreshold := 20 } ∧
    FlipFollowsActive { applyUnrestored with pendingThreshold := 20 } ∧
    nextLabel? { applyUnrestored with pendingThreshold := 20 } = some .wpService ∧
    applyUnrestored.evtFlipPending = false ∧ applyUnrestored.pendingValid = true ∧
    swapDraws { applyUnrestored with pendingThreshold := 20 } = 0 :=
  ⟨by constructor <;> decide, fun _ _ => rfl, by decide, rfl, rfl, by decide⟩

theorem witness_FailedSwapKeepsTheSetting :
    Invariants applyDue ∧ FlipFollowsActive applyDue ∧ nextLabel? applyDue = some .wpService ∧
    applyDue.evtFlipPending = false ∧ applyDue.pendingValid = true ∧ applyDue.wpFlipValid = true ∧
    0 < applyDue.pendingThreshold.val ∧ applyDue.pendingThreshold.val < 20 ∧
    (∀ k (h : k < 3),
      drawAt { applyDue with draws := [false, true, true] } k = [false, true, true][k]'h) ∧
    (∀ k (h : k < 3),
      drawAt { applyDue with draws := [false, true, false] } k = [false, true, false][k]'h) :=
  ⟨witness_invariants_applyDue, fun _ _ => rfl, by decide, rfl, rfl, rfl, by decide, by decide,
    by decide, by decide⟩

/-- The removal fails, the request being for 0: nothing would have been added. -/
theorem witness_FailedSwapKeepsTheSetting_boundary :
    Invariants { applyDue with pendingThreshold := 0, draws := [true] } ∧
    FlipFollowsActive { applyDue with pendingThreshold := 0, draws := [true] } ∧
    nextLabel? { applyDue with pendingThreshold := 0, draws := [true] } = some .wpService ∧
    applyDue.evtFlipPending = false ∧ applyDue.pendingValid = true ∧ applyDue.wpFlipValid = true ∧
    (∀ k (h : k < 1),
      drawAt { applyDue with pendingThreshold := 0, draws := [true] } k = [true][k]'h) :=
  ⟨by constructor <;> decide, fun _ _ => rfl, by decide, rfl, rfl, rfl, by decide⟩

theorem witness_FailedSwapKeepsTheSetting_no_flip :
    Invariants { applyUnrestored with draws := [true] } ∧
    FlipFollowsActive { applyUnrestored with draws := [true] } ∧
    nextLabel? { applyUnrestored with draws := [true] } = some .wpService ∧
    applyUnrestored.evtFlipPending = false ∧ applyUnrestored.pendingValid = true ∧
    0 < applyUnrestored.pendingThreshold.val ∧ applyUnrestored.pendingThreshold.val < 20 ∧
    applyUnrestored.wpFlipValid = false ∧
    (∀ k (h : k < 1), drawAt { applyUnrestored with draws := [true] } k = [true][k]'h) :=
  ⟨by constructor <;> decide, fun _ _ => rfl, by decide, rfl, rfl, by decide, by decide, rfl,
    by decide⟩

/-- A request for 5 at count 18, with two edges to come. -/
def requestAhead : State :=
  { run10 with
    ecCount := 18
    inputs := .cmd (encode (.setDutyCycle (5 : Threshold).val)) :: ([.tick, .rise, .fall, .rise] ++ []) }

theorem witness_RequestIsInForceAfterTheCycle :
    Invariants requestAhead ∧ FlipFollowsActive requestAhead ∧ Quiet requestAhead ∧
    Eager requestAhead ∧ requestAhead.engState = .running ∧
    requestAhead.draws = false :: false :: [false, false] ∧
    (∀ e ∈ [Input.tick, .rise, .fall, .rise], e = .rise ∨ e = .fall ∨ e = .tick) ∧
    [Input.tick, .rise, .fall, .rise].count .rise = 20 - requestAhead.ecCount.val ∧
    requestAhead.inputs =
      .cmd (encode (.setDutyCycle (5 : Threshold).val)) :: ([.tick, .rise, .fall, .rise] ++ []) :=
  ⟨by constructor <;> decide, fun _ _ => rfl, rfl, rfl, rfl, rfl, by decide, by decide, rfl⟩

theorem witness_FlipServiceSchedulesLow :
    nextLabel? flipDue = some .wpService ∧ flipDue.dtConfigured = true ∧
    flipDue.evtFlipPending = true ∧ 0 < flipDue.evtFlipVal.val ∧
    flipDue.evtFlipVal.val = flipDue.activeThreshold.val := by decide

theorem witness_FullServiceSchedulesTheNextLevel :
    nextLabel? fullDue = some .wpService ∧ fullDue.dtConfigured = true ∧
    fullDue.ecConfigured = true ∧ fullDue.evtFlipPending = false ∧ fullDue.pendingValid = false ∧
    nextLabel? applyDue = some .wpService ∧ applyDue.dtConfigured = true ∧
    applyDue.ecConfigured = true ∧ applyDue.evtFlipPending = false ∧ applyDue.pendingValid = true := by
  decide

theorem witness_StaleFlipOnlyCounts :
    nextLabel? { flipDue with activeThreshold := 5 } = some .wpService ∧
    flipDue.evtFlipPending = true ∧
    flipDue.evtFlipVal.val ≠ { flipDue with activeThreshold := 5 }.activeThreshold.val := by decide

theorem witness_HandlersRunInPriorityOrder :
    { flipDue with dtEvtPending := true }.engState = .running ∧
    { flipDue with dtEvtPending := true }.dtEvtPending = true ∧
    handlerLags { flipDue with dtEvtPending := true } = false ∧
    fullDue.engState = .running ∧ fullDue.dtEvtPending = false ∧ fullDue.evtFullPending = true ∧
    handlerLags fullDue = false ∧ handlerLags { fullDue with deferrals := [true] } = true ∧
    bare.engState ≠ .running ∧
    run10.dtEvtPending = false ∧ run10.evtFlipPending = false ∧ run10.evtFullPending = false := by
  decide

theorem witness_HandlersRunInPriorityOrder_both :
    ∃ t, nextLabel? { flipDue with evtFullPending := true } = some .wpService ∧
      { flipDue with evtFullPending := true }.evtFlipPending = true ∧
      step { flipDue with evtFullPending := true } = .next t := ⟨_, by decide, rfl, rfl⟩

theorem witness_ExpiryServiceWritesThePin :
    nextLabel? expiryDue = some .dtService ∧ expiryDue.dtConfigured = true ∧
    expiryDue.pol = some .high ∧
    nextLabel? { expiryDue with pol := none } = some .dtService ∧
    { expiryDue with pol := none }.pol = none := by decide

theorem witness_OnlyExpiryServiceWritesThePin :
    ∃ t, step expiryDue = .next t ∧ t.out ≠ expiryDue.out := ⟨_, rfl, by decide⟩

theorem witness_PinFollowsTheArmAfter2000Ticks :
    armAhead.engState = .running ∧ armAhead.dtConfigured = true ∧ armAhead.dtRunning = true ∧
    armAhead.dtCount = 0 ∧ armAhead.pol = some .high ∧ Quiet armAhead ∧ Eager armAhead ∧
    armAhead.inputs = ticks 2000 ++ [Input.rise] ∧ RunsTo 0 armAhead armAhead := by
  refine ⟨rfl, rfl, rfl, rfl, rfl, ?_, ?_, ?_, ?_⟩
  · rfl
  · rfl
  · unfold armAhead; rfl
  · rfl

theorem witness_PhaseMovesAtFlipAndBoundary :
    ∃ t, Invariants (facing .rise { run10 with ecCount := 9 }) ∧
      (facing .rise { run10 with ecCount := 9 }).engState = .running ∧
      nextLabel? (facing .rise { run10 with ecCount := 9 }) = some (.input .rise) ∧
      step (facing .rise { run10 with ecCount := 9 }) = .next t :=
  ⟨_, by constructor <;> decide, rfl, by decide, rfl⟩

/-- A start at threshold 0 whose nineteen first edges come with nothing between them. -/
def startAhead : State :=
  { State.reset with
    draws := [false, false, false, false] ++ []
    inputs := .cmd (encode .engStart) :: (List.replicate 19 .rise ++ .rise :: []) }

theorem witness_FirstBoundaryIsTheTwentiethEdge :
    startAhead.engState = .idle ∧ Eager startAhead ∧ startAhead.out = .low ∧
    startAhead.draws = [false, false, false, false] ++ [] ∧
    (∀ e ∈ List.replicate 19 Input.rise, e = .rise ∨ e = .fall ∨ e = .tick) ∧
    (List.replicate 19 Input.rise).count .rise = 19 ∧
    startAhead.inputs = .cmd (encode .engStart) :: (List.replicate 19 .rise ++ .rise :: []) ∧
    RunsTo 0 startAhead startAhead :=
  ⟨rfl, rfl, rfl, rfl, by decide, by decide, rfl, rfl⟩

/-- The same with a threshold that has a FLIP point, and at N. -/
theorem witness_FirstBoundaryIsTheTwentiethEdge_thresholds :
    { startAhead with activeThreshold := 10 }.engState = .idle ∧
    Eager { startAhead with activeThreshold := 10 } ∧
    0 < { startAhead with activeThreshold := 10 }.activeThreshold.val ∧
    { startAhead with activeThreshold := 10 }.activeThreshold.val < 20 ∧
    { startAhead with activeThreshold := 10 }.inputs = startAhead.inputs ∧
    { startAhead with activeThreshold := 20 }.activeThreshold.val = 20 ∧
    { startAhead with activeThreshold := 20 }.inputs = startAhead.inputs :=
  ⟨rfl, rfl, by decide, by decide, rfl, rfl, rfl⟩

theorem witness_WaveformOfOneCycle :
    Invariants { afterBoundary with inputs := risesEvery 20 2001 ++ [] } ∧
    Quiet { afterBoundary with inputs := risesEvery 20 2001 ++ [] } ∧
    Eager { afterBoundary with inputs := risesEvery 20 2001 ++ [] } ∧
    afterBoundary.engState = .running ∧ afterBoundary.wpFlipValid = true ∧
    afterBoundary.wpFlipVal.val = afterBoundary.activeThreshold.val ∧
    afterBoundary.pendingValid = false ∧ afterBoundary.ecCount = 0 ∧
    afterBoundary.pol = some .high ∧ afterBoundary.dtRunning = true ∧ afterBoundary.dtCount = 0 ∧
    afterBoundary.out = .low ∧ 2000 < 2001 ∧ 20 * 2001 < 2 ^ 64 ∧
    { afterBoundary with inputs := risesEvery 20 2001 ++ [] }.inputs = risesEvery 20 2001 ++ [] ∧
    RunsTo 0 { afterBoundary with inputs := risesEvery 20 2001 ++ [] }
      { afterBoundary with inputs := risesEvery 20 2001 ++ [] } :=
  ⟨by constructor <;> decide, rfl, rfl, rfl, rfl, rfl, rfl, rfl, rfl, rfl, rfl, rfl, by decide,
    by decide, rfl, rfl⟩

theorem witness_FrequencyFollowsTheFormula :
    bare.lastCycleValid = false ∧ { bare with lastCycleValid := true }.lastCycleValid = true ∧
    { bare with lastCycleValid := true }.lastCycleTimeUs = 0 ∧
    { bare with lastCycleValid := true, lastCycleTimeUs := 2 }.lastCycleValid = true ∧
    { bare with lastCycleValid := true, lastCycleTimeUs := 2 }.lastCycleTimeUs ≠ 0 := by decide

theorem witness_ApplyResultIsTakenOnce :
    bare.applyEventPending = false ∧ { bare with applyEventPending := true }.applyEventPending = true ∧
    { bare with applyEventPending := true }.lastApplyResult = .none ∧
    { bare with applyEventPending := true, lastApplyResult := .failUnrestored }.lastApplyResult =
      .failUnrestored := by decide

theorem witness_StatusWordHoldsEveryField :
    bare.engState = .idle ∧ run10.engState = .running ∧
    { bare with engState := .failed }.engState = .failed ∧
    bare.pol = none ∧ { bare with pol := some .low }.pol = some .low ∧ expiryDue.pol = some .high ∧
    bare.lastApplyResult = .none ∧
    { bare with lastApplyResult := .failRolledBack }.lastApplyResult = .failRolledBack := by decide

theorem witness_StatusCodesAreThoseOfTheSpec :
    (∃ t, command 0x46000000 bare = .next t ∧ decode 0x46000000 = .error (.unknownOp 0x46)) ∧
    (∃ t, command 0x13000000 bare = .next t ∧ decode 0x13000000 = .ok .ecClear) ∧
    (-1 : Int) < 0 ∧ (20 : Int) < 21 ∧ run10.engState = .running ∧
    { bare with draws := [true] }.engState = .idle ∧
    drawAt { bare with draws := [true] } 0 = true ∧ bare.lastCycleValid = false :=
  ⟨⟨_, rfl, rfl⟩, ⟨_, rfl, rfl⟩, by decide, by decide, rfl, rfl, rfl, rfl⟩

theorem witness_TriggerCountCountsServices :
    ∃ t, step flipDue = .next t ∧ nextLabel? flipDue = some .wpService := ⟨_, rfl, by decide⟩

theorem witness_TriggerCountCountsServices_start :
    ∃ t, step (facing (.cmd 0x30000000) { bare with triggerCount := 5 }) = .next t ∧
      nextLabel? (facing (.cmd 0x30000000) { bare with triggerCount := 5 }) ≠ some .wpService ∧
      t.triggerCount ≠ { bare with triggerCount := 5 }.triggerCount := ⟨_, rfl, by decide, by decide⟩

theorem witness_ReadsAreIdempotent :
    Instr.getStatus ∈ [Instr.ecGetCount, .getDutyCycle, .getTriggerCount, .getCycleCount,
      .getLastCycleTime, .getFrequency, .getStatus] ∧
    ∃ t, exec .getStatus run10 = .next t := ⟨by decide, _, rfl⟩

theorem witness_DirectCommandsRefusedWhileRunning :
    run10.engState = .running ∧ (∃ v, Instr.ecAddWp 3 = .ecConfigure v ∨ Instr.ecAddWp 3 = .ecAddWp v ∨
      Instr.ecAddWp 3 = .ecRemoveWp v) ∧
    Instr.dtStop ∈ [Instr.ecClear, .dtConfigure, .dtResetAndStart, .dtStop] :=
  ⟨rfl, ⟨3, .inr (.inl rfl)⟩, by decide⟩

theorem witness_TaskWritesOnlyRequestWhileRunning :
    ∃ t, run10.engState = .running ∧ command 0x31000005 run10 = .next t := ⟨_, rfl, rfl⟩

/-- A rising edge that changes the count, a latch and, with the latch still set, the overrun flag. -/
theorem witness_EveryFieldHasItsWriters_rise :
    ∃ t, nextLabel? (facing .rise { bare with wpFlipValid := true, wpFlipVal := 1 }) =
        some (.input .rise) ∧
      step (facing .rise { bare with wpFlipValid := true, wpFlipVal := 1 }) = .next t ∧
      t.ecCount ≠ 0 ∧ t.evtFlipPending ≠ false ∧
      ∃ u, nextLabel? (facing .rise { t with ecCount := 0 }) = some (.input .rise) ∧
        step (facing .rise { t with ecCount := 0 }) = .next u ∧ u.faultWpOverrun ≠ t.faultWpOverrun :=
  ⟨_, by decide, rfl, by decide, by decide, _, by decide, rfl, by decide⟩

/-- A start that changes the peripherals, the watch points, the engine's state and the statistics. -/
theorem witness_EveryFieldHasItsWriters_start :
    ∃ t, nextLabel? (facing (.cmd 0x30000000)
          { State.reset with activeThreshold := 10, draws := zeros, triggerCount := 1 }) =
        some (.input (.cmd 0x30000000)) ∧
      step (facing (.cmd 0x30000000)
        { State.reset with activeThreshold := 10, draws := zeros, triggerCount := 1 }) = .next t ∧
      t.ecConfigured ≠ false ∧ t.wpFlipValid ≠ false ∧ t.wpFullValid ≠ false ∧
      t.dtConfigured ≠ false ∧ t.engState ≠ .idle ∧ t.triggerCount ≠ 1 :=
  ⟨_, by decide, rfl, by decide, by decide, by decide, by decide, by decide, by decide⟩

/-- A tick that changes the clock, the timer and the expiry latch. -/
theorem witness_EveryFieldHasItsWriters_tick :
    ∃ t, nextLabel? (facing .tick { bare with dtRunning := true, dtCount := 1999 }) =
        some (.input .tick) ∧
      step (facing .tick { bare with dtRunning := true, dtCount := 1999 }) = .next t ∧
      t.dtRunning ≠ true ∧ t.dtEvtPending ≠ false ∧ t.now ≠ 0 :=
  ⟨_, by decide, rfl, by decide, by decide, by decide⟩

/-- A FULL service that changes the setting, the request, the notification, the intent and two flags. -/
theorem witness_EveryFieldHasItsWriters_full :
    ∃ t, nextLabel? { applyDue with pol := some .low } = some .wpService ∧
      step { applyDue with pol := some .low } = .next t ∧
      t.activeThreshold ≠ 10 ∧ t.pendingValid ≠ true ∧ t.lastApplyResult ≠ .none ∧
      t.pol ≠ some .low ∧ t.faultArmSupersede ≠ false :=
  ⟨_, by decide, rfl, by decide, by decide, by decide, by decide, by decide⟩

/-- An expiry service that changes the pin. -/
theorem witness_EveryFieldHasItsWriters_expiry :
    ∃ t, nextLabel? expiryDue = some .dtService ∧ Label.dtService ≠ .input .reset ∧
      step expiryDue = .next t ∧ t.out ≠ .low := ⟨_, by decide, by decide, rfl, by decide⟩

theorem witness_FaultFlagsAreSticky :
    ∃ t, step { fullDue with
          faultWpOverrun := true, faultArmSupersede := true, faultFlipUnrestored := true } = .next t ∧
      nextLabel? { fullDue with
          faultWpOverrun := true, faultArmSupersede := true, faultFlipUnrestored := true } ≠
        some (.input .reset) := ⟨_, rfl, by decide⟩

theorem witness_FaultFlagsChangeNoRule_GlitchSettingHasNoEffect :
    ∃ t, step fullDue = .next t ∧ nextLabel? fullDue ≠ some (.input (.cmd 0x45000000)) :=
  ⟨_, rfl, by decide⟩

theorem witness_ResetWritesEveryFieldButNow :
    nextLabel? (facing .reset run10) = some (.input .reset) := by decide

theorem witness_StepKeepsTheInvariants : ∃ t, Invariants applyDue ∧ step applyDue = .next t :=
  ⟨_, witness_invariants_applyDue, rfl⟩

theorem witness_StepKeepsIntentArmed :
    ∃ t, Invariants afterBoundary ∧ IntentArmed afterBoundary ∧ step afterBoundary = .next t :=
  ⟨_, witness_invariants_afterBoundary, fun _ => by decide, rfl⟩

theorem witness_StepKeepsFlipFollowsActive :
    ∃ t, Invariants applyDue ∧ FlipFollowsActive applyDue ∧ step applyDue = .next t :=
  ⟨_, witness_invariants_applyDue, fun _ _ => rfl, rfl⟩

theorem witness_AtMostOneHandlerDue :
    ∃ t, Quiet (facing .rise { run10 with ecCount := 9 }) ∧
      step (facing .rise { run10 with ecCount := 9 }) = .next t ∧ t.engState = .running :=
  ⟨_, rfl, rfl, by decide⟩

theorem witness_DueHandlerLeavesQuiet :
    ∃ t, Eager fullDue ∧ latchesSet fullDue ≤ 1 ∧ handlerEnabled fullDue = true ∧
      step fullDue = .next t := ⟨_, rfl, by decide, by decide, rfl⟩

/-- `afterBoundary` 1999 microseconds later, with an edge 2001 microseconds after the boundary. -/
def spacedEdge : State := { afterBoundary with dtCount := 1999, inputs := [.tick, .tick, .rise] }

theorem witness_SpacedEdgesNeverSupersede :
    Invariants spacedEdge ∧ IntentArmed spacedEdge ∧ Quiet spacedEdge ∧ Eager spacedEdge ∧
      edgesSpaced 1999 spacedEdge.inputs ∧
      (spacedEdge.engState = .running → spacedEdge.dtRunning = true →
        1999 ≤ spacedEdge.dtCount.toNat) ∧
      spacedEdge.faultArmSupersede = false :=
  ⟨by constructor <;> decide, fun _ => by decide, rfl, rfl, ⟨by decide, trivial⟩,
    fun _ _ => by decide, rfl⟩

/-- A FULL event at its edge, with nothing outstanding. -/
theorem witness_SpacedEdgesNeverSupersede_step :
    ∃ t, SpacedState 0 fullDue ∧ step fullDue = .next t :=
  ⟨_, ⟨by constructor <;> decide, fun _ => by decide, rfl, fun _ => by decide, trivial,
    fun _ => by decide, fun _ _ => by decide, rfl⟩, rfl⟩

end Sys2Proof.Tests
end

/-! ## The reference schedule: at most one handler due, and it settles at once (O57, O58) -/

namespace Sys2Proof.Machine

/-! ### The latches of a quiet state -/

theorem latchesSet_eq_zero_iff (s : State) :
    latchesSet s = 0 ↔
      s.dtEvtPending = false ∧ s.evtFlipPending = false ∧ s.evtFullPending = false := by
  simp [latchesSet, and_assoc]

/-- R35, last paragraph: quiet is about a running engine alone. -/
theorem quiet_iff (s : State) : Quiet s ↔ (s.engState = .running → latchesSet s = 0) := by
  rw [latchesSet_eq_zero_iff]
  exact handlerEnabled_eq_false_iff s

theorem spendDeferral_of_quiet {s : State} (hq : Quiet s) : spendDeferral s = s := by
  unfold Quiet at hq
  simp [spendDeferral, hq]

theorem nextLabel?_of_quiet {s : State} (hq : Quiet s) :
    nextLabel? s = s.inputs.head?.map .input := by
  unfold Quiet at hq
  simp [nextLabel?, (dueHandler?_eq_none_iff s).2 hq]

/-- A step from a quiet state is the environment's, or changes nothing. -/
theorem step_cases_of_quiet {s t : State} (hq : Quiet s) (h : step s = .next t) :
    t = s ∨ ∃ e, fire (.input e) { s with inputs := s.inputs.tail } = .next t := by
  rcases step_cases h with ⟨-, ht⟩ | ⟨l, hl, hf⟩
  · exact .inl (ht.trans (spendDeferral_of_quiet hq))
  · rw [nextLabel?_of_quiet hq, Option.map_eq_some_iff] at hl
    obtain ⟨e, -, rfl⟩ := hl
    rw [spendDeferral_of_quiet hq] at hf
    exact .inr ⟨e, hf⟩

/-! ### The engine's state is no field of the peripherals -/

theorem ecConfigure_engState (g : Arg) (s : State) : (ecConfigure g s).2.engState = s.engState := by
  rcases ecConfigure_cases g s with ⟨-, e⟩ | ⟨-, e⟩ <;> simp [e]

theorem ecAddWp_engState (v : Nat) (s : State) : (ecAddWp v s).2.engState = s.engState := by
  rcases ecAddWp_cases v s with ⟨-, e⟩ | ⟨-, -, -, -, e⟩ | ⟨_, -, -, -, -, -, e⟩ <;> simp [e]

theorem ecRemoveWp_engState (v : Nat) (s : State) : (ecRemoveWp v s).2.engState = s.engState := by
  rcases ecRemoveWp_cases v s with ⟨-, e⟩ | ⟨-, -, -, -, e⟩ | ⟨-, -, -, -, -, e⟩ <;> simp [e]

theorem ecClear_engState (s : State) : (ecClear s).2.engState = s.engState := by
  rcases ecClear_cases s with ⟨-, e⟩ | ⟨-, e⟩ <;> simp [e]

theorem dtConfigure_engState (s : State) : (dtConfigure s).2.engState = s.engState := by
  rcases dtConfigure_cases s with ⟨-, e⟩ | ⟨-, e⟩ <;> simp [e]

theorem dtResetAndStart_engState (s : State) : (dtResetAndStart s).2.engState = s.engState := by
  rcases dtResetAndStart_cases s with ⟨-, e⟩ | ⟨-, e⟩ <;> simp [e]

theorem dtStop_engState (s : State) : (dtStop s).2.engState = s.engState := by
  rcases dtStop_cases s with ⟨-, e⟩ | ⟨-, e⟩ <;> simp [e]

/-! ### Commands -/

/-- What a command can do: run a primitive that keeps the engine's state, start the engine, write the
request, take the notification, or answer and nothing else. -/
theorem exec_cases {i : Instr} {s t : State} (h : exec i s = .next t) :
    (∃ p : State → Status × State, (p s).2.engState = s.engState ∧ t = directCommand p s) ∨
    (i = .engStart ∧ execEngStart s = .next t) ∨
    (∃ v, t = respond .ok 0 (request v s)) ∨
    (∃ d, t = respond .ok d { s with applyEventPending := false, lastApplyResult := .none }) ∨
    ∃ st d, t = respond st d s := by
  have direct {p : State → Status × State} (hp : (p s).2.engState = s.engState)
      (h : (.next (directCommand p s) : Host.Outcome State Fault Refusal) = .next t) :
      ∃ p : State → Status × State, (p s).2.engState = s.engState ∧ t = directCommand p s :=
    ⟨p, hp, (Host.Outcome.next.inj h).symm⟩
  cases i with
  | ecConfigure g => exact .inl (direct (ecConfigure_engState _ s) h)
  | ecAddWp v => exact .inl (direct (ecAddWp_engState v s) h)
  | ecRemoveWp v => exact .inl (direct (ecRemoveWp_engState v s) h)
  | ecClear => exact .inl (direct (ecClear_engState s) h)
  | dtConfigure => exact .inl (direct (dtConfigure_engState s) h)
  | dtResetAndStart => exact .inl (direct (dtResetAndStart_engState s) h)
  | dtStop => exact .inl (direct (dtStop_engState s) h)
  | engStart => exact .inr (.inl ⟨rfl, h⟩)
  | setDutyCycle v =>
    simp only [exec, execSetDutyCycle, Host.Outcome.next.injEq] at h
    rcases threshold?_cases v with ⟨hv, -⟩ | ⟨x, hv, -⟩ <;> rw [hv] at h
    · exact .inr (.inr (.inr (.inr ⟨_, _, h.symm⟩)))
    · exact .inr (.inr (.inl ⟨x, h.symm⟩))
  | takeApplyResult =>
    simp only [exec, execTakeApplyResult, Host.Outcome.next.injEq] at h
    split at h
    · exact .inr (.inr (.inr (.inl ⟨_, h.symm⟩)))
    · exact .inr (.inr (.inr (.inr ⟨_, _, h.symm⟩)))
  | ecGetCount =>
    simp only [exec, execEcGetCount, Host.Outcome.next.injEq] at h
    split at h <;> exact .inr (.inr (.inr (.inr ⟨_, _, h.symm⟩)))
  | getFrequency =>
    simp only [exec, execGetFrequency, Host.Outcome.next.injEq] at h
    split at h <;> exact .inr (.inr (.inr (.inr ⟨_, _, h.symm⟩)))
  | getDutyCycle | getTriggerCount | getCycleCount | getLastCycleTime | getStatus =>
    exact .inr (.inr (.inr (.inr ⟨_, _, (Host.Outcome.next.inj h).symm⟩)))

/-- Where the engine runs after a direct command it ran before, so the command was refused (R215). -/
theorem directCommand_of_running {p : State → Status × State} {s : State}
    (hp : (p s).2.engState = s.engState) (hr : (directCommand p s).engState = .running) :
    s.engState = .running ∧ directCommand p s = respond .invalidState 0 s := by
  rcases directCommand_cases p s with hc | ⟨hn, e⟩
  · exact hc
  · rw [e, respond_engState, hp] at hr
    exact absurd hr hn

/-- Where the engine runs after `ENG_START`, either it ran before and the command was refused, or the
set-up has cleared every latch (R136). -/
theorem execEngStart_of_running {s t : State} (h : execEngStart s = .next t)
    (hr : t.engState = .running) :
    (s.engState = .running ∧ t = respond .invalidState 0 s) ∨
    (latchesSet t = 0 ∧ t.faultWpOverrun = s.faultWpOverrun) := by
  simp only [execEngStart, Host.Outcome.next.injEq] at h
  split at h
  · subst h
    exact .inl ⟨hr, rfl⟩
  rcases engSetup_cases s with ⟨hf, -⟩ | ⟨hok, v, ds, n, -, e⟩
  · rw [if_neg hf] at h
    subst h
    simp at hr
  · rw [if_pos hok, e] at h
    subst h
    exact .inr ⟨(latchesSet_eq_zero_iff _).2 (by simp), by simp⟩

theorem request_engState (v : Threshold) (s : State) : (request v s).engState = s.engState := by
  rcases request_cases v s with ⟨-, e⟩ | ⟨-, -, e⟩ | ⟨-, -, e⟩ <;> rw [e]

theorem request_latchesSet (v : Threshold) (s : State) :
    latchesSet (request v s) = latchesSet s := by
  rcases request_cases v s with ⟨-, e⟩ | ⟨-, -, e⟩ | ⟨-, -, e⟩ <;> rw [e] <;> rfl

theorem request_faultWpOverrun (v : Threshold) (s : State) :
    (request v s).faultWpOverrun = s.faultWpOverrun := by
  rcases request_cases v s with ⟨-, e⟩ | ⟨-, -, e⟩ | ⟨-, -, e⟩ <;> rw [e]

/-- No command latches an event of a running engine or overruns one (R214). -/
theorem exec_latches_of_quiet {i : Instr} {s t : State} (hq : Quiet s) (h : exec i s = .next t)
    (hr : t.engState = .running) : latchesSet t = 0 ∧ t.faultWpOverrun = s.faultWpOverrun := by
  have hz := (quiet_iff s).1 hq
  rcases exec_cases h with ⟨p, hp, rfl⟩ | ⟨-, h⟩ | ⟨v, rfl⟩ | ⟨d, rfl⟩ | ⟨st, d, rfl⟩
  · obtain ⟨hs, e⟩ := directCommand_of_running hp hr
    rw [e]
    exact ⟨hz hs, rfl⟩
  · rcases execEngStart_of_running h hr with ⟨hs, rfl⟩ | hclear
    · exact ⟨hz hs, rfl⟩
    · exact hclear
  · exact ⟨(request_latchesSet v s).trans (hz ((request_engState v s).symm.trans hr)),
      request_faultWpOverrun v s⟩
  · exact ⟨hz hr, rfl⟩
  · exact ⟨hz hr, rfl⟩

/-! ### The steps of the environment from a quiet state -/

theorem rise_engState (s : State) : (rise s).engState = s.engState := by
  rcases rise_cases s with ⟨-, e⟩ | ⟨-, _, -, ⟨-, -, e⟩ | ⟨-, e⟩⟩ | ⟨-, -, ⟨-, e⟩ | ⟨-, e⟩⟩ <;>
    simp [e]

theorem tick_engState (s : State) : (tick s).engState = s.engState := by
  rcases tick_cases s with ⟨-, e⟩ | ⟨-, -, e⟩ | ⟨-, -, e⟩ <;> simp [e]

/-- With no latch set an edge latches at most one of FLIP and FULL, into a free latch (R110, R203). -/
theorem rise_latches_of_none {s : State} (hz : latchesSet s = 0) :
    latchesSet (rise s) ≤ 1 ∧ (rise s).faultWpOverrun = s.faultWpOverrun := by
  obtain ⟨hdt, hflip, hfull⟩ := (latchesSet_eq_zero_iff s).1 hz
  rcases rise_cases s with ⟨-, e⟩ | ⟨-, _, -, ⟨-, -, e⟩ | ⟨-, e⟩⟩ | ⟨-, -, ⟨-, e⟩ | ⟨-, e⟩⟩ <;>
    rw [e] <;> simp [latchesSet, postFlip, postFull, hdt, hflip, hfull]

/-- With no latch set a tick latches the expiry alone, if any (R128). -/
theorem tick_latches_of_none {s : State} (hz : latchesSet s = 0) :
    latchesSet (tick s) ≤ 1 ∧ (tick s).faultWpOverrun = s.faultWpOverrun := by
  obtain ⟨hdt, hflip, hfull⟩ := (latchesSet_eq_zero_iff s).1 hz
  rcases tick_cases s with ⟨-, e⟩ | ⟨-, -, e⟩ | ⟨-, -, e⟩ <;>
    rw [e] <;> simp [latchesSet, hdt, hflip, hfull]

/-- From a quiet state a step of the environment latches at most one event of a running engine, and
overruns none. -/
theorem fire_input_latches_of_quiet {e : Input} {s t : State} (hq : Quiet s)
    (h : fire (.input e) s = .next t) (hr : t.engState = .running) :
    latchesSet t ≤ 1 ∧ t.faultWpOverrun = s.faultWpOverrun := by
  have hz := (quiet_iff s).1 hq
  cases e with
  | rise =>
    cases h
    exact rise_latches_of_none (hz ((rise_engState s).symm.trans hr))
  | fall =>
    cases h
    exact ⟨(hz hr).le.trans zero_le_one, rfl⟩
  | tick =>
    cases h
    exact tick_latches_of_none (hz ((tick_engState s).symm.trans hr))
  | reset =>
    cases h
    cases hr
  | cmd w =>
    rcases command_cases w s with ⟨_, -, e⟩ | ⟨i, -, e⟩ <;>
      simp only [fire, e] at h
    · cases h
      exact ⟨(hz hr).le.trans zero_le_one, rfl⟩
    · obtain ⟨hnone, hover⟩ := exec_latches_of_quiet hq h hr
      exact ⟨hnone.le.trans zero_le_one, hover⟩

/-! ### The handlers and the clock -/

theorem schedule_now (l : Level) (s : State) : (schedule l s).now = s.now := by
  rcases schedule_cases l s with ⟨-, e⟩ | ⟨-, e⟩ <;> rw [e]

theorem ecClear_now (s : State) : (ecClear s).2.now = s.now := by
  rcases ecClear_cases s with ⟨-, e⟩ | ⟨-, e⟩ <;> rw [e]

theorem dcApplyPending_now (s : State) : (dcApplyPending s).now = s.now := by
  unfold dcApplyPending
  split
  · rfl
  split
  · rfl
  · obtain ⟨v, c, f, ds, n, e, -⟩ := dcSwap_frame s.pendingThreshold s
    simp [finishApply, e]

theorem fullBranch_now (s : State) : (fullBranch s).now = s.now := by
  unfold fullBranch scheduleBoundary
  rw [schedule_now, dcApplyPending_now, ecClear_now, recordCycle_now]

theorem wpBranch_now (v : Nat) (s : State) : (wpBranch v s).now = s.now := by
  rcases wpBranch_cases v s with ⟨-, -, -, e⟩ | ⟨-, e⟩ | ⟨-, -, e⟩ <;> rw [e]
  · exact schedule_now .low s
  · exact fullBranch_now s

theorem wpService_now (s : State) : (wpService s).now = s.now := by
  unfold wpService
  rw [wpBranch_now, countTrigger_now]
  rcases enterWatchPoint_cases s with ⟨-, e⟩ | ⟨-, e⟩ <;> rw [e]

theorem dtStop_now (s : State) : (dtStop s).2.now = s.now := by
  rcases dtStop_cases s with ⟨-, e⟩ | ⟨-, e⟩ <;> rw [e]

theorem writePin_now (s : State) : (writePin s).now = s.now := by
  rcases writePin_cases s with ⟨-, e⟩ | ⟨_, -, e⟩ <;> rw [e]

theorem dtService_now (s : State) : (dtService s).now = s.now := by
  unfold dtService
  rw [writePin_now, dtStop_now, enterExpiry_now]

/-- In the reference schedule the due handler runs next, and no handler moves the clock. -/
theorem due_step_now {s t : State} (he : Eager s) (hh : handlerEnabled s = true)
    (h : step s = .next t) : t.now = s.now := by
  unfold Eager at he
  rcases nextLabel?_cases s with ⟨hidle | hlag, -⟩ | ⟨-, -, -, hl⟩ | ⟨-, -, -, -, hl⟩
  · simp [hh] at hidle
  · simp [handlerLags, he] at hlag
  · rw [step_of_nextLabel hl] at h
    cases h
    exact (dtService_now _).trans (spendDeferral_now s)
  · rw [step_of_nextLabel hl] at h
    cases h
    exact (wpService_now _).trans (spendDeferral_now s)

/-! ### The obligations -/

/-- Settles O57: from a quiet state only the environment moves, and each of its steps latches at most
one event. -/
theorem atMostOneHandlerDue : Obligations.AtMostOneHandlerDue := by
  intro s t hq h hr
  rcases step_cases_of_quiet hq h with rfl | ⟨e, hf⟩
  · exact ⟨((quiet_iff t).1 hq hr).le.trans zero_le_one, rfl⟩
  · exact fire_input_latches_of_quiet (s := { s with inputs := s.inputs.tail }) hq hf hr

/-- Settles O58: the due handler clears a latch and sets none (`due_step`), so none of at most one is
left. -/
theorem dueHandlerLeavesQuiet : Obligations.DueHandlerLeavesQuiet := by
  intro s t he hone hh h
  obtain ⟨-, hless, hinputs⟩ := due_step he hh h
  exact ⟨(quiet_iff t).2 fun _ => by omega, hinputs, due_step_now he hh h⟩

end Sys2Proof.Machine

/-! ## The invariants of R35 are kept by every step (O53 to O56) -/

namespace Sys2Proof.Machine

/-! ### What an application writes (R139 to R141) -/

/-- What a swap from `s` towards the threshold `p` can answer, and the FLIP slot and the sticky flag it
leaves (R140, R141). -/
inductive SwapOutcome (p : Threshold) (s : State) (r : ApplyResult × State) : Prop where
  /-- The new point is registered. -/
  | registered (ok : r.1 = .ok) (needed : needsFlip p = true) (valid : r.2.wpFlipValid = true)
      (val : r.2.wpFlipVal.val = p.val)
  /-- The new threshold needs no point; the one of the active threshold, if any, is gone. -/
  | emptied (ok : r.1 = .ok) (unneeded : needsFlip p = false)
      (valid : r.2.wpFlipValid = (s.wpFlipValid && !needsFlip s.activeThreshold))
      (val : r.2.wpFlipVal = s.wpFlipVal)
  /-- The swap failed and the slot is as it was. -/
  | kept (failed : r.1 = .failRemove ∨ r.1 = .failRolledBack)
      (valid : r.2.wpFlipValid = s.wpFlipValid) (val : r.2.wpFlipVal = s.wpFlipVal)
  /-- The old point is gone and could not be put back. -/
  | unrestored (failed : r.1 = .failUnrestored) (valid : r.2.wpFlipValid = false)
      (flag : r.2.faultFlipUnrestored = true)

/-- `EC.add_wp` of a FLIP value leaves the slot as it was, or holding that value. -/
theorem ecAddWp_flipSlot {v : Nat} (hv : v < Config.N) (s : State) :
    ((ecAddWp v s).1 ≠ .ok ∧ (ecAddWp v s).2 = s.takeDraw) ∨
    ((ecAddWp v s).1 = .ok ∧ (ecAddWp v s).2.wpFlipValid = true ∧
      (ecAddWp v s).2.wpFlipVal.val = v) := by
  rcases ecAddWp_cases v s with hfail | ⟨hN, -⟩ | ⟨c, hc, -, -, -, -, e⟩
  · exact .inl hfail
  · omega
  · exact .inr (by simp [e, hc])

/-- `EC.remove_wp` of the FLIP slot's value leaves all as it was, or the slot empty. -/
theorem ecRemoveWp_flipSlot (s : State) :
    ((ecRemoveWp s.wpFlipVal.val s).1 ≠ .ok ∧ (ecRemoveWp s.wpFlipVal.val s).2 = s.takeDraw) ∨
    ((ecRemoveWp s.wpFlipVal.val s).1 = .ok ∧
      (ecRemoveWp s.wpFlipVal.val s).2 = { s.takeDraw with wpFlipValid := false }) := by
  rcases ecRemoveWp_cases s.wpFlipVal.val s with hfail | ⟨hN, -⟩ | ⟨-, -, -, -, -, e⟩
  · exact .inl hfail
  · exact absurd hN (Nat.ne_of_lt s.wpFlipVal.isLt)
  · exact .inr (by simp [e])

/-- The addition half of a swap, after a removal half that left `x`: the removal emptied the slot, or
there was nothing to remove. -/
theorem dcAddHalf_outcome (p : Threshold) (removed : Bool) (s x : State)
    (hvalid : x.wpFlipValid = (s.wpFlipValid && !removed)) (hval : x.wpFlipVal = s.wpFlipVal)
    (hremoved : removed = (needsFlip s.activeThreshold && s.wpFlipValid)) :
    SwapOutcome p s (dcAddHalf p removed s.wpFlipVal x) := by
  unfold dcAddHalf
  by_cases hp : needsFlip p = true
  · rw [if_pos hp]
    rcases ecAddWp_flipSlot ((needsFlip_iff p).1 hp).2 x with ⟨hno, e⟩ | ⟨hok, hv, hc⟩
    · rw [if_neg hno, e]
      rcases dcRollback_cases removed s.wpFlipVal x.takeDraw with
        ⟨rfl, e⟩ | ⟨rfl, hok, e⟩ | ⟨rfl, -, e⟩ <;> rw [e]
      · exact .kept (.inr rfl) (by simpa using hvalid) hval
      · have hs : s.wpFlipValid = true := by simp_all
        rcases ecAddWp_flipSlot s.wpFlipVal.isLt x.takeDraw with ⟨hno, -⟩ | ⟨-, hv, hc⟩
        · exact absurd hok hno
        · exact .kept (.inr rfl) (hv.trans hs.symm) (Fin.ext hc)
      · exact .unrestored rfl (by simpa using hvalid) rfl
    · rw [if_pos hok]
      exact .registered rfl hp hv hc
  · rw [if_neg hp]
    refine .emptied rfl (by simpa using hp) ?_ hval
    rw [hvalid, hremoved]
    cases s.wpFlipValid <;> simp

theorem dcSwap_outcome (p : Threshold) (s : State) : SwapOutcome p s (dcSwap p s) := by
  unfold dcSwap
  by_cases h : needsFlip s.activeThreshold = true ∧ s.wpFlipValid = true
  · rw [if_pos h]
    rcases ecRemoveWp_flipSlot s with ⟨hno, e⟩ | ⟨hok, e⟩
    · rw [if_neg hno, e]
      exact .kept (.inl rfl) rfl rfl
    · rw [if_pos hok, e]
      exact dcAddHalf_outcome p true s _ (by simp) rfl (by simp [h])
  · rw [if_neg h]
    rw [← Bool.and_eq_true, Bool.not_eq_true] at h
    exact dcAddHalf_outcome p false s s (by simp) rfl h.symm

section
variable {p : Threshold} {s : State} {r : ApplyResult × State}

/-- A swap always has something to report. -/
theorem SwapOutcome.result_ne_none (h : SwapOutcome p s r) : r.1 ≠ .none := by
  rcases h with ⟨e, -, -, -⟩ | ⟨e, -, -, -⟩ | ⟨e | e, -, -⟩ | ⟨e, -, -⟩ <;> rw [e] <;> decide

/-- The threshold in force once a swap is finished (R139). -/
def committed (p : Threshold) (s : State) (r : ApplyResult × State) : Threshold :=
  if r.1 = .ok then p else s.activeThreshold

theorem SwapOutcome.flipInRange (h : SwapOutcome p s r)
    (hs : s.wpFlipValid = true → 0 < s.wpFlipVal.val ∧ s.wpFlipVal.val < Config.N) :
    r.2.wpFlipValid = true → 0 < r.2.wpFlipVal.val ∧ r.2.wpFlipVal.val < Config.N := by
  intro hv
  cases h with
  | registered _ hp _ hc => rw [hc]; exact (needsFlip_iff p).1 hp
  | emptied _ _ hvalid hc => rw [hc]; exact hs (by simp_all)
  | kept _ hvalid hc => rw [hc]; exact hs (by rw [← hvalid, hv])
  | unrestored _ hvalid _ => simp [hvalid] at hv

/-- If the point registered before was that of the active threshold, so is the one registered after. -/
theorem SwapOutcome.flipFollows (h : SwapOutcome p s r)
    (hrange : s.wpFlipValid = true → 0 < s.wpFlipVal.val ∧ s.wpFlipVal.val < Config.N)
    (hs : s.wpFlipValid = true → s.wpFlipVal.val = s.activeThreshold.val) :
    r.2.wpFlipValid = true → r.2.wpFlipVal.val = (committed p s r).val := by
  intro hv
  unfold committed
  cases h with
  | registered ok _ _ hc => rw [if_pos ok, hc]
  | emptied _ _ hvalid _ =>
    obtain ⟨hsv, hn⟩ : s.wpFlipValid = true ∧ needsFlip s.activeThreshold = false := by simp_all
    have hneeds := (needsFlip_iff s.activeThreshold).2 (hs hsv ▸ hrange hsv)
    simp [hn] at hneeds
  | kept failed hvalid hc =>
    rw [if_neg (by rcases failed with e | e <;> simp [e]), hc]
    exact hs (by rw [← hvalid, hv])
  | unrestored _ hvalid _ => simp [hvalid] at hv

/-- If a point was registered exactly where the active threshold needs one, it is so after, unless the
sticky flag says otherwise. -/
theorem SwapOutcome.flipComplete (h : SwapOutcome p s r)
    (hs : s.wpFlipValid = needsFlip s.activeThreshold) (hflag : r.2.faultFlipUnrestored = false) :
    r.2.wpFlipValid = needsFlip (committed p s r) := by
  unfold committed
  cases h with
  | registered ok hp hvalid _ => rw [if_pos ok, hvalid, hp]
  | emptied ok hp hvalid _ => rw [if_pos ok, hvalid, hp, hs, Bool.and_not_self]
  | kept failed hvalid _ => rw [if_neg (by rcases failed with e | e <;> simp [e]), hvalid, hs]
  | unrestored _ _ hset => simp [hset] at hflag

end

/-- What the application of a request can do: nothing; withdraw a request for the active value; or swap,
and then the slot, its flag and the oracle's place are the swap's, and the outcome is recorded (R139). -/
theorem dcApplyPending_cases (s : State) :
    dcApplyPending s = s ∨
    dcApplyPending s = { s with pendingValid := false } ∨
    (s.pendingValid = true ∧ ∃ r : ApplyResult × State, SwapOutcome s.pendingThreshold s r ∧
      (s.faultFlipUnrestored = true → r.2.faultFlipUnrestored = true) ∧
      dcApplyPending s =
        { s with
          wpFlipValid := r.2.wpFlipValid, wpFlipVal := r.2.wpFlipVal
          faultFlipUnrestored := r.2.faultFlipUnrestored
          draws := r.2.draws, drawCount := r.2.drawCount
          activeThreshold := committed s.pendingThreshold s r
          pendingValid := false, lastApplyResult := r.1, applyEventPending := true }) := by
  unfold dcApplyPending
  split
  · exact .inl rfl
  next hpending =>
  split
  · exact .inr (.inl rfl)
  obtain ⟨v, c, f, ds, n, e, hsticky⟩ := dcSwap_frame s.pendingThreshold s
  refine .inr (.inr ⟨by simpa using hpending, _, dcSwap_outcome _ s, by rwa [e], ?_⟩)
  simp [finishApply, committed, e]

/-! ### Starting the engine (R136) -/

theorem execEngStart_cases {s t : State} (h : execEngStart s = .next t) :
    (s.engState ≠ .idle ∧ t = respond .invalidState 0 s) ∨
    (s.engState = .idle ∧ (engSetup s).1 = .ok ∧ t = respond .ok 0 (engRun (engSetup s).2)) ∨
    (s.engState = .idle ∧ (engSetup s).1 ≠ .ok ∧ t = respond .hwFail 0 (engFail (engSetup s).2)) := by
  cases h
  split
  · exact .inl ⟨‹_›, rfl⟩
  next hidle =>
  split
  · exact .inr (.inl ⟨not_not.1 hidle, ‹_›, rfl⟩)
  · exact .inr (.inr ⟨not_not.1 hidle, ‹_›, rfl⟩)

/-! ### I1 to I10, one operation at a time

`{ h with … }` names the invariants that an operation's writes can touch; the others are those of the
state before. -/

/-- I8 holds of every state: the types have no other codes. -/
theorem codesInRange_always (s : State) :
    s.engState.code ≠ 3 ∧ intentCode s.pol ≠ 3 ∧ s.lastApplyResult.code.toNat ≤ 4 := by
  refine ⟨?_, ?_, ?_⟩
  · cases s.engState <;> decide
  · rcases s.pol with - | - | - <;> decide
  · cases s.lastApplyResult <;> decide

theorem threshold_le_N (t : Threshold) : t.val ≤ Config.N := Nat.le_of_lt_succ t.isLt

section
variable {s : State}

theorem spendDeferral_invariants (h : Invariants s) : Invariants (spendDeferral s) := by
  unfold spendDeferral
  split
  · exact { h with }
  · exact h

theorem consume_invariants (l : Label) (h : Invariants s) : Invariants (consume l s) := by
  cases l with
  | input _ => exact { h with }
  | wpService | dtService => exact h

theorem respond_invariants (st : Status) (d : Word) (h : Invariants s) :
    Invariants (respond st d s) := { h with }

theorem takeDraw_invariants (h : Invariants s) : Invariants s.takeDraw := { h with }

/-! #### The primitives; those that unconfigure a unit or move a watch point are called directly only
while the engine does not run (R215), where I5 and I6 say nothing -/

theorem ecConfigure_invariants (g : Arg) (hn : s.engState ≠ .running) (h : Invariants s) :
    Invariants (ecConfigure g s).2 := by
  rcases ecConfigure_cases g s with ⟨-, e⟩ | ⟨-, e⟩ <;> rw [e]
  · exact takeDraw_invariants h
  · exact { h with
      countInRange := Nat.zero_le _
      flipInRange := nofun
      runningConfigured := fun hr => absurd hr hn
      flipIsActive := fun hr => absurd hr hn }

theorem ecAddWp_invariants (v : Nat) (hn : s.engState ≠ .running) (h : Invariants s) :
    Invariants (ecAddWp v s).2 := by
  rcases ecAddWp_cases v s with ⟨-, e⟩ | ⟨-, -, -, -, e⟩ | ⟨c, hc, h0, -, -, -, e⟩ <;> rw [e]
  · exact takeDraw_invariants h
  · exact { h with runningConfigured := fun hr => absurd hr hn }
  · exact { h with
      flipInRange := fun _ => ⟨hc ▸ h0, c.isLt⟩
      flipIsActive := fun hr => absurd hr hn }

theorem ecRemoveWp_invariants (v : Nat) (hn : s.engState ≠ .running) (h : Invariants s) :
    Invariants (ecRemoveWp v s).2 := by
  rcases ecRemoveWp_cases v s with ⟨-, e⟩ | ⟨-, -, -, -, e⟩ | ⟨-, -, -, -, -, e⟩ <;> rw [e]
  · exact takeDraw_invariants h
  · exact { h with runningConfigured := fun hr => absurd hr hn }
  · exact { h with
      flipInRange := nofun
      flipIsActive := fun hr => absurd hr hn }

theorem ecClear_invariants (h : Invariants s) : Invariants (ecClear s).2 := by
  rcases ecClear_cases s with ⟨-, e⟩ | ⟨-, e⟩ <;> rw [e]
  · exact { h with countInRange := Nat.zero_le _ }
  · exact h

theorem dtConfigure_invariants (hn : s.engState ≠ .running) (h : Invariants s) :
    Invariants (dtConfigure s).2 := by
  rcases dtConfigure_cases s with ⟨-, e⟩ | ⟨-, e⟩ <;> rw [e]
  · exact takeDraw_invariants h
  · exact { h with
      runningConfigured := fun hr => absurd hr hn
      timerBelowAlarm := nofun
      expiryStopped := nofun }

theorem dtResetAndStart_invariants (h : Invariants s) : Invariants (dtResetAndStart s).2 := by
  rcases dtResetAndStart_cases s with ⟨hc, e⟩ | ⟨-, e⟩ <;> rw [e]
  · exact { h with
      timerBelowAlarm := fun _ => ⟨Nat.zero_lt_succ _, hc⟩
      expiryStopped := nofun }
  · exact h

theorem dtStop_invariants (h : Invariants s) : Invariants (dtStop s).2 := by
  rcases dtStop_cases s with ⟨-, e⟩ | ⟨-, e⟩ <;> rw [e]
  · exact { h with
      timerBelowAlarm := nofun
      expiryStopped := fun _ => rfl }
  · exact h

/-! #### The commands -/

theorem directCommand_invariants {p : State → Status × State}
    (hp : s.engState ≠ .running → Invariants (p s).2) (h : Invariants s) :
    Invariants (directCommand p s) := by
  rcases directCommand_cases p s with ⟨-, e⟩ | ⟨hn, e⟩ <;> rw [e]
  · exact respond_invariants _ _ h
  · exact respond_invariants _ _ (hp hn)

/-- A set-up that fails leaves nothing registered and the engine not running. -/
theorem engFail_engSetup_invariants (h : Invariants s) (hn : s.engState ≠ .running)
    (hfail : (engSetup s).1 ≠ .ok) : Invariants (engFail (engSetup s).2) := by
  rcases engSetup_cases s with ⟨-, g, v, ds, n, e⟩ | ⟨hok, -⟩
  · rw [e]
    exact { h with
      countInRange := Nat.zero_le _
      flipInRange := nofun
      pendingDiffers := fun hp => absurd (h.pendingDiffers hp).1 hn
      runningConfigured := nofun
      flipIsActive := nofun
      timerBelowAlarm := nofun
      expiryStopped := nofun
      codesInRange := codesInRange_always _ }
  · exact absurd hok hfail

/-- A set-up that succeeds establishes I5 and I6 afresh. -/
theorem engRun_engSetup_invariants (h : Invariants s) (hok : (engSetup s).1 = .ok) :
    Invariants (engRun (engSetup s).2) := by
  rcases engSetup_cases s with ⟨hno, -⟩ | ⟨-, v, ds, n, hv, e⟩
  · exact absurd hok hno
  rw [e]
  exact { h with
    countInRange := Nat.zero_le _
    flipInRange := fun hf => hv hf ▸ (needsFlip_iff _).1 hf
    pendingInRange := nofun
    pendingDiffers := nofun
    runningConfigured := fun _ => ⟨rfl, rfl, rfl⟩
    flipIsActive := fun _ _ => ⟨needsFlip_iff _, hv⟩
    timerBelowAlarm := nofun
    expiryStopped := nofun
    codesInRange := codesInRange_always _
    eventHasResult := nofun
    cycleTimeHasTimestamp := nofun }

theorem execEngStart_invariants {t : State} (h : Invariants s) (ht : execEngStart s = .next t) :
    Invariants t := by
  rcases execEngStart_cases ht with ⟨-, rfl⟩ | ⟨-, hok, rfl⟩ | ⟨hidle, hno, rfl⟩
  · exact respond_invariants _ _ h
  · exact respond_invariants _ _ (engRun_engSetup_invariants h hok)
  · exact respond_invariants _ _ (engFail_engSetup_invariants h (by simp [hidle]) hno)

theorem request_invariants (v : Threshold) (h : Invariants s) : Invariants (request v s) := by
  rcases request_cases v s with ⟨hn, e⟩ | ⟨-, -, e⟩ | ⟨hr, hne, e⟩ <;> rw [e]
  · exact { h with
      activeInRange := threshold_le_N v
      pendingDiffers := fun hp => absurd (h.pendingDiffers hp).1 hn
      flipIsActive := fun hr => absurd hr hn }
  · exact { h with
      pendingInRange := nofun
      pendingDiffers := nofun }
  · exact { h with
      pendingInRange := fun _ => threshold_le_N v
      pendingDiffers := fun _ => ⟨hr, hne⟩ }

theorem exec_invariants {i : Instr} {t : State} (h : Invariants s) (ht : exec i s = .next t) :
    Invariants t := by
  cases i with
  | ecConfigure g =>
    cases ht; exact directCommand_invariants (fun hn => ecConfigure_invariants _ hn h) h
  | ecAddWp v => cases ht; exact directCommand_invariants (fun hn => ecAddWp_invariants v hn h) h
  | ecRemoveWp v =>
    cases ht; exact directCommand_invariants (fun hn => ecRemoveWp_invariants v hn h) h
  | ecClear => cases ht; exact directCommand_invariants (fun _ => ecClear_invariants h) h
  | dtConfigure => cases ht; exact directCommand_invariants (fun hn => dtConfigure_invariants hn h) h
  | dtResetAndStart =>
    cases ht; exact directCommand_invariants (fun _ => dtResetAndStart_invariants h) h
  | dtStop => cases ht; exact directCommand_invariants (fun _ => dtStop_invariants h) h
  | engStart => exact execEngStart_invariants h ht
  | setDutyCycle v =>
    cases ht
    split
    · exact respond_invariants _ _ h
    · exact respond_invariants _ _ (request_invariants _ h)
  | takeApplyResult =>
    cases ht
    split
    · exact { h with
        codesInRange := codesInRange_always _
        eventHasResult := nofun }
    · exact respond_invariants _ _ h
  | ecGetCount | getFrequency => cases ht; split <;> exact respond_invariants _ _ h
  | getDutyCycle | getTriggerCount | getCycleCount | getLastCycleTime | getStatus =>
    cases ht; exact respond_invariants _ _ h

theorem command_invariants {w : Word} {t : State} (h : Invariants s)
    (ht : command w s = .next t) : Invariants t := by
  rcases command_cases w s with ⟨_, -, e⟩ | ⟨i, -, e⟩ <;> rw [e] at ht
  · cases ht; exact respond_invariants _ _ h
  · exact exec_invariants h ht

/-! #### The environment's other steps -/

theorem rise_invariants (h : Invariants s) : Invariants (rise s) := by
  have hcount (c : Count) : c.val ≤ Config.N - 1 := Nat.le_of_lt_succ c.isLt
  rcases rise_cases s with ⟨-, e⟩ | ⟨-, c, -, ⟨-, -, e⟩ | ⟨-, e⟩⟩ | ⟨-, -, ⟨-, e⟩ | ⟨-, e⟩⟩ <;> rw [e]
  · exact h
  all_goals exact { h with countInRange := hcount _ }

/-- Below the alarm a tick counts one on, and at the alarm the timer stops itself (R128). -/
theorem tick_invariants (h : Invariants s) : Invariants (tick s) := by
  rcases tick_cases s with ⟨-, e⟩ | ⟨hrun, hne, e⟩ | ⟨-, -, e⟩ <;> rw [e]
  · exact { h with }
  · obtain ⟨hlt, hc⟩ := h.timerBelowAlarm hrun
    have hlt' : (s.dtCount + 1).toNat < Config.dtAlarm := by
      unfold Config.dtAlarm at hlt ⊢
      bv_omega
    exact { h with timerBelowAlarm := fun _ => ⟨hlt', hc⟩ }
  · exact { h with
      timerBelowAlarm := nofun
      expiryStopped := fun _ => rfl }

theorem reset_invariants : Invariants State.reset where
  countInRange := Nat.zero_le _
  flipInRange := nofun
  activeInRange := Nat.zero_le _
  pendingInRange := nofun
  pendingDiffers := nofun
  runningConfigured := nofun
  flipIsActive := nofun
  timerBelowAlarm := nofun
  expiryStopped := nofun
  codesInRange := codesInRange_always _
  eventHasResult := nofun
  cycleTimeHasTimestamp := nofun

theorem resetStep_invariants (s : State) : Invariants (resetStep s) := { reset_invariants with }

/-! #### The handlers -/

theorem enterWatchPoint_invariants (h : Invariants s) : Invariants (enterWatchPoint s).2 := by
  rcases enterWatchPoint_cases s with ⟨-, e⟩ | ⟨-, e⟩ <;> rw [e] <;> exact { h with }

theorem countTrigger_invariants (h : Invariants s) : Invariants (countTrigger s) := { h with }

theorem schedule_invariants (l : Level) (h : Invariants s) : Invariants (schedule l s) :=
  dtResetAndStart_invariants { h with codesInRange := codesInRange_always _ }

theorem recordCycle_invariants (h : Invariants s) : Invariants (recordCycle s) :=
  { h with cycleTimeHasTimestamp := fun _ => rfl }

/-- A swap keeps I2 in any case, and I6 by what it commits and reports (R139 to R141). -/
theorem dcApplyPending_invariants (h : Invariants s) : Invariants (dcApplyPending s) := by
  rcases dcApplyPending_cases s with e | e | ⟨-, r, hr, hsticky, e⟩ <;> rw [e]
  · exact h
  · exact { h with
      pendingInRange := nofun
      pendingDiffers := nofun }
  · have hflip (hrun : s.engState = .running) (hflag : r.2.faultFlipUnrestored = false) :
        r.2.wpFlipValid = needsFlip (committed s.pendingThreshold s r) ∧
        (r.2.wpFlipValid = true → r.2.wpFlipVal.val = (committed s.pendingThreshold s r).val) := by
      have hflag' : s.faultFlipUnrestored = false := by
        rw [Bool.eq_false_iff]
        intro hset
        simp [hsticky hset] at hflag
      obtain ⟨hiff, hval⟩ := h.flipIsActive hrun hflag'
      have hcomplete : s.wpFlipValid = needsFlip s.activeThreshold :=
        Bool.eq_iff_iff.2 (hiff.trans (needsFlip_iff _).symm)
      exact ⟨hr.flipComplete hcomplete hflag, hr.flipFollows h.flipInRange hval⟩
    exact { h with
      flipInRange := hr.flipInRange h.flipInRange
      activeInRange := threshold_le_N _
      pendingInRange := nofun
      pendingDiffers := nofun
      flipIsActive := fun hrun hflag =>
        ⟨(hflip hrun hflag).1 ▸ needsFlip_iff _, (hflip hrun hflag).2⟩
      codesInRange := codesInRange_always _
      eventHasResult := fun _ => hr.result_ne_none }

/-- The state in which the FULL branch schedules the next cycle's level. -/
theorem boundary_invariants (h : Invariants s) :
    Invariants (dcApplyPending (ecClear (recordCycle s)).2) :=
  dcApplyPending_invariants (ecClear_invariants (recordCycle_invariants h))

theorem wpBranch_invariants (v : Nat) (h : Invariants s) : Invariants (wpBranch v s) := by
  rcases wpBranch_cases v s with ⟨-, -, -, e⟩ | ⟨-, e⟩ | ⟨-, -, e⟩ <;> rw [e]
  · exact schedule_invariants .low h
  · exact schedule_invariants _ (boundary_invariants h)
  · exact h

theorem wpService_invariants (h : Invariants s) : Invariants (wpService s) :=
  wpBranch_invariants _ (countTrigger_invariants (enterWatchPoint_invariants h))

theorem enterExpiry_invariants (h : Invariants s) : Invariants (enterExpiry s) :=
  { h with expiryStopped := nofun }

theorem writePin_invariants (h : Invariants s) : Invariants (writePin s) := by
  rcases writePin_cases s with ⟨-, e⟩ | ⟨_, -, e⟩ <;> rw [e]
  · exact h
  · exact { h with codesInRange := codesInRange_always _ }

theorem dtService_invariants (h : Invariants s) : Invariants (dtService s) :=
  writePin_invariants (dtStop_invariants (enterExpiry_invariants h))

/-! #### One step -/

theorem fire_invariants {l : Label} {t : State} (h : Invariants s) (ht : fire l s = .next t) :
    Invariants t := by
  cases l with
  | wpService => cases ht; exact wpService_invariants h
  | dtService => cases ht; exact dtService_invariants h
  | input e =>
    cases e with
    | rise => cases ht; exact rise_invariants h
    | fall => cases ht; exact h
    | tick => cases ht; exact tick_invariants h
    | cmd w => exact command_invariants h ht
    | reset => cases ht; exact resetStep_invariants s

end

/-- Settles O54: the schedule writes no field of the block, and the step of each label keeps I1 to I10. -/
theorem stepKeepsTheInvariants : Obligations.StepKeepsTheInvariants := by
  intro s t h hstep
  rcases step_cases hstep with ⟨-, rfl⟩ | ⟨l, -, hfire⟩
  · exact spendDeferral_invariants h
  · exact fire_invariants (consume_invariants l (spendDeferral_invariants h)) hfire

/-! ### What a command leaves of a running engine (R214, R215) -/

/-- The request, the notification and the response are all that the states differ in. -/
def SameButTaskFields (s t : State) : Prop :=
  t =
    { s with
      pendingValid := t.pendingValid, pendingThreshold := t.pendingThreshold
      lastApplyResult := t.lastApplyResult, applyEventPending := t.applyEventPending
      respStatus := t.respStatus, respData := t.respData }

/-- Where the engine runs after a command, it ran before and only the task's own fields changed, or the
command started it. -/
theorem exec_of_running {i : Instr} {s t : State} (h : exec i s = .next t)
    (hr : t.engState = .running) :
    (s.engState = .running ∧ SameButTaskFields s t) ∨
    ((engSetup s).1 = .ok ∧ t = respond .ok 0 (engRun (engSetup s).2)) := by
  rcases exec_cases h with ⟨p, hp, rfl⟩ | ⟨-, h⟩ | ⟨v, rfl⟩ | ⟨d, rfl⟩ | ⟨st, d, rfl⟩
  · obtain ⟨hs, e⟩ := directCommand_of_running hp hr
    exact .inl ⟨hs, by rw [e]; rfl⟩
  · rcases execEngStart_cases h with ⟨-, rfl⟩ | ⟨-, hok, rfl⟩ | ⟨-, -, rfl⟩
    · exact .inl ⟨hr, rfl⟩
    · exact .inr ⟨hok, rfl⟩
    · cases hr
  · have hs : s.engState = .running := (request_engState v s).symm.trans hr
    refine .inl ⟨hs, ?_⟩
    rcases request_cases v s with ⟨hn, -⟩ | ⟨-, -, e⟩ | ⟨-, -, e⟩
    · exact absurd hs hn
    · rw [e]; rfl
    · rw [e]; rfl
  · exact .inl ⟨hr, rfl⟩
  · exact .inl ⟨hr, rfl⟩

theorem command_of_running {w : Word} {s t : State} (h : command w s = .next t)
    (hr : t.engState = .running) :
    (s.engState = .running ∧ SameButTaskFields s t) ∨
    ((engSetup s).1 = .ok ∧ t = respond .ok 0 (engRun (engSetup s).2)) := by
  rcases command_cases w s with ⟨_, -, e⟩ | ⟨i, -, e⟩ <;> rw [e] at h
  · cases h; exact .inl ⟨hr, rfl⟩
  · exact exec_of_running h hr

/-! ### An intent is set exactly while its arm is outstanding -/

section
variable {s : State}

theorem engRun_engSetup_intentArmed (hok : (engSetup s).1 = .ok) :
    IntentArmed (engRun (engSetup s).2) := by
  rcases engSetup_cases s with ⟨hno, -⟩ | ⟨-, _, _, _, -, e⟩
  · exact absurd hok hno
  · intro _
    simp [e]

theorem respond_intentArmed (st : Status) (d : Word) (h : IntentArmed s) :
    IntentArmed (respond st d s) := h

theorem command_intentArmed {w : Word} {t : State} (h : IntentArmed s)
    (ht : command w s = .next t) : IntentArmed t := by
  intro hr
  rcases command_of_running ht hr with ⟨hs, e⟩ | ⟨hok, rfl⟩
  · rw [e]
    exact h hs
  · exact respond_intentArmed _ _ (engRun_engSetup_intentArmed hok) hr

theorem rise_intentArmed (h : IntentArmed s) : IntentArmed (rise s) := by
  rcases rise_cases s with ⟨-, e⟩ | ⟨-, _, -, ⟨-, -, e⟩ | ⟨-, e⟩⟩ | ⟨-, -, ⟨-, e⟩ | ⟨-, e⟩⟩ <;>
    rw [e] <;> exact h

/-- At the alarm the running timer hands over to its latched expiry (R128). -/
theorem tick_intentArmed (h : IntentArmed s) : IntentArmed (tick s) := by
  rcases tick_cases s with ⟨-, e⟩ | ⟨-, -, e⟩ | ⟨hrun, -, e⟩ <;> rw [e]
  · exact h
  · exact h
  · intro hr
    have harmed : s.pol ≠ none := (h hr).2 (.inl hrun)
    simpa using harmed

/-- In a running engine the timer is configured (I5), so an intent comes with its arm (R160). -/
theorem schedule_intentArmed (l : Level) (hi : Invariants s) : IntentArmed (schedule l s) := by
  intro hr
  rcases schedule_cases l s with ⟨-, e⟩ | ⟨hc, e⟩ <;> rw [e] at hr ⊢
  · simp
  · obtain ⟨-, hdt, -⟩ := hi.runningConfigured hr
    simp [hc] at hdt

theorem wpBranch_intentArmed (v : Nat) (hi : Invariants s) (h : IntentArmed s) :
    IntentArmed (wpBranch v s) := by
  rcases wpBranch_cases v s with ⟨-, -, -, e⟩ | ⟨-, e⟩ | ⟨-, -, e⟩ <;> rw [e]
  · exact schedule_intentArmed .low hi
  · exact schedule_intentArmed _ (boundary_invariants hi)
  · exact h

theorem enterWatchPoint_intentArmed (h : IntentArmed s) : IntentArmed (enterWatchPoint s).2 := by
  rcases enterWatchPoint_cases s with ⟨-, e⟩ | ⟨-, e⟩ <;> rw [e] <;> exact h

theorem wpService_intentArmed (hi : Invariants s) (h : IntentArmed s) :
    IntentArmed (wpService s) :=
  wpBranch_intentArmed _ (countTrigger_invariants (enterWatchPoint_invariants hi))
    (enterWatchPoint_intentArmed h)

theorem dtService_engState (s : State) : (dtService s).engState = s.engState := by
  have hstop : (dtStop (enterExpiry s)).2.engState = s.engState := dtStop_engState _
  unfold dtService
  rcases writePin_cases (dtStop (enterExpiry s)).2 with ⟨-, e⟩ | ⟨_, -, e⟩ <;> rw [e] <;> exact hstop

/-- The expiry handler stops the timer (I5), and consumes the intent with the latch (R165). -/
theorem dtService_intentArmed (hi : Invariants s) : IntentArmed (dtService s) := by
  intro hr
  obtain ⟨-, hdt, -⟩ := hi.runningConfigured ((dtService_engState s).symm.trans hr)
  unfold dtService
  rcases dtStop_cases (enterExpiry s) with ⟨-, e⟩ | ⟨hno, -⟩
  · rw [e]
    rcases writePin_cases { enterExpiry s with dtRunning := false } with ⟨hpol, e⟩ | ⟨_, -, e⟩ <;>
      rw [e]
    · simpa using hpol
    · simp
  · exact absurd hdt (by simpa using hno)

theorem fire_intentArmed {l : Label} {t : State} (hi : Invariants s) (h : IntentArmed s)
    (ht : fire l s = .next t) : IntentArmed t := by
  cases l with
  | wpService => cases ht; exact wpService_intentArmed hi h
  | dtService => cases ht; exact dtService_intentArmed hi
  | input e =>
    cases e with
    | rise => cases ht; exact rise_intentArmed h
    | fall => cases ht; exact h
    | tick => cases ht; exact tick_intentArmed h
    | cmd w => exact command_intentArmed h ht
    | reset => cases ht; exact nofun

theorem spendDeferral_intentArmed (h : IntentArmed s) : IntentArmed (spendDeferral s) := by
  simpa [IntentArmed] using h

theorem consume_intentArmed (l : Label) (h : IntentArmed s) : IntentArmed (consume l s) := by
  simpa [IntentArmed] using h

end

/-- Settles O55: only an arm sets an intent, the expiry takes both away, and a start has neither. -/
theorem stepKeepsIntentArmed : Obligations.StepKeepsIntentArmed := by
  intro s t hi h hstep
  have hspent := spendDeferral_intentArmed h
  rcases step_cases hstep with ⟨-, rfl⟩ | ⟨l, -, hfire⟩
  · exact hspent
  · exact fire_intentArmed (consume_invariants l (spendDeferral_invariants hi))
      (consume_intentArmed l hspent) hfire

/-! ### The FLIP point of a running engine is that of the active threshold -/

section
variable {s : State}

theorem engRun_engSetup_flipFollowsActive (hok : (engSetup s).1 = .ok) :
    FlipFollowsActive (engRun (engSetup s).2) := by
  rcases engSetup_cases s with ⟨hno, -⟩ | ⟨-, _, _, _, hv, e⟩
  · exact absurd hok hno
  · rw [e]
    exact fun _ => hv

theorem respond_flipFollowsActive (st : Status) (d : Word) (h : FlipFollowsActive s) :
    FlipFollowsActive (respond st d s) := h

theorem command_flipFollowsActive {w : Word} {t : State} (h : FlipFollowsActive s)
    (ht : command w s = .next t) : FlipFollowsActive t := by
  intro hr
  rcases command_of_running ht hr with ⟨hs, e⟩ | ⟨hok, rfl⟩
  · rw [e]
    exact h hs
  · exact respond_flipFollowsActive _ _ (engRun_engSetup_flipFollowsActive hok) hr

theorem rise_flipFollowsActive (h : FlipFollowsActive s) : FlipFollowsActive (rise s) := by
  rcases rise_cases s with ⟨-, e⟩ | ⟨-, _, -, ⟨-, -, e⟩ | ⟨-, e⟩⟩ | ⟨-, -, ⟨-, e⟩ | ⟨-, e⟩⟩ <;>
    rw [e] <;> exact h

theorem tick_flipFollowsActive (h : FlipFollowsActive s) : FlipFollowsActive (tick s) := by
  rcases tick_cases s with ⟨-, e⟩ | ⟨-, -, e⟩ | ⟨-, -, e⟩ <;> rw [e] <;> exact h

theorem schedule_flipFollowsActive (l : Level) (h : FlipFollowsActive s) :
    FlipFollowsActive (schedule l s) := by
  rcases schedule_cases l s with ⟨-, e⟩ | ⟨-, e⟩ <;> rw [e] <;> exact h

theorem ecClear_flipFollowsActive (h : FlipFollowsActive s) : FlipFollowsActive (ecClear s).2 := by
  rcases ecClear_cases s with ⟨-, e⟩ | ⟨-, e⟩ <;> rw [e] <;> exact h

theorem dcApplyPending_flipFollowsActive (hi : Invariants s) (h : FlipFollowsActive s) :
    FlipFollowsActive (dcApplyPending s) := by
  rcases dcApplyPending_cases s with e | e | ⟨-, r, hr, -, e⟩ <;> rw [e]
  · exact h
  · exact h
  · exact fun hrun => hr.flipFollows hi.flipInRange (h hrun)

theorem fullBranch_flipFollowsActive (hi : Invariants s) (h : FlipFollowsActive s) :
    FlipFollowsActive (fullBranch s) :=
  schedule_flipFollowsActive _ (dcApplyPending_flipFollowsActive
    (ecClear_invariants (recordCycle_invariants hi)) (ecClear_flipFollowsActive h))

theorem wpBranch_flipFollowsActive (v : Nat) (hi : Invariants s) (h : FlipFollowsActive s) :
    FlipFollowsActive (wpBranch v s) := by
  rcases wpBranch_cases v s with ⟨-, -, -, e⟩ | ⟨-, e⟩ | ⟨-, -, e⟩ <;> rw [e]
  · exact schedule_flipFollowsActive .low h
  · exact fullBranch_flipFollowsActive hi h
  · exact h

theorem enterWatchPoint_flipFollowsActive (h : FlipFollowsActive s) :
    FlipFollowsActive (enterWatchPoint s).2 := by
  rcases enterWatchPoint_cases s with ⟨-, e⟩ | ⟨-, e⟩ <;> rw [e] <;> exact h

theorem wpService_flipFollowsActive (hi : Invariants s) (h : FlipFollowsActive s) :
    FlipFollowsActive (wpService s) :=
  wpBranch_flipFollowsActive _ (countTrigger_invariants (enterWatchPoint_invariants hi))
    (enterWatchPoint_flipFollowsActive h)

theorem dtService_flipFollowsActive (h : FlipFollowsActive s) : FlipFollowsActive (dtService s) := by
  have hx : FlipFollowsActive (dtStop (enterExpiry s)).2 := by
    rcases dtStop_cases (enterExpiry s) with ⟨-, e⟩ | ⟨-, e⟩ <;> rw [e] <;> exact h
  unfold dtService
  rcases writePin_cases (dtStop (enterExpiry s)).2 with ⟨-, e⟩ | ⟨_, -, e⟩ <;> rw [e] <;> exact hx

theorem fire_flipFollowsActive {l : Label} {t : State} (hi : Invariants s)
    (h : FlipFollowsActive s) (ht : fire l s = .next t) : FlipFollowsActive t := by
  cases l with
  | wpService => cases ht; exact wpService_flipFollowsActive hi h
  | dtService => cases ht; exact dtService_flipFollowsActive h
  | input e =>
    cases e with
    | rise => cases ht; exact rise_flipFollowsActive h
    | fall => cases ht; exact h
    | tick => cases ht; exact tick_flipFollowsActive h
    | cmd w => exact command_flipFollowsActive h ht
    | reset => cases ht; exact nofun

theorem spendDeferral_flipFollowsActive (h : FlipFollowsActive s) :
    FlipFollowsActive (spendDeferral s) := by
  simpa [FlipFollowsActive] using h

theorem consume_flipFollowsActive (l : Label) (h : FlipFollowsActive s) :
    FlipFollowsActive (consume l s) := by
  simpa [FlipFollowsActive] using h

end

/-- Settles O56: in a running engine only an application moves the FLIP point, and it commits the
threshold whose point it registers (`SwapOutcome.flipFollows`). -/
theorem stepKeepsFlipFollowsActive : Obligations.StepKeepsFlipFollowsActive := by
  intro s t hi h hstep
  have hspent := spendDeferral_flipFollowsActive h
  rcases step_cases hstep with ⟨-, rfl⟩ | ⟨l, -, hfire⟩
  · exact hspent
  · exact fire_flipFollowsActive (consume_invariants l (spendDeferral_invariants hi))
      (consume_flipFollowsActive l hspent) hfire

/-! ### The power-on state -/

/-- Settles O53, from `reset_invariants`: the reset engine is idle. -/
theorem resetStateIsSafe : Obligations.ResetStateIsSafe :=
  ⟨reset_invariants, nofun, nofun, rfl, rfl, rfl⟩

end Sys2Proof.Machine

/-! ## The fault flags change no rule (O49) -/

namespace Sys2Proof.Machine

/-! ### States that differ in the flags alone -/

/-- `s` with other values of the three flags of R32. -/
def State.withFaults (a b c : Bool) (s : State) : State :=
  { s with faultWpOverrun := a, faultArmSupersede := b, faultFlipUnrestored := c }

/-- The states differ at most in the three flags. -/
def SameButFaults (s t : State) : Prop := ∃ a b c, t = s.withFaults a b c

/-- The same answer, and states that differ at most in the three flags. -/
def SameAnswer {α : Type} (r q : α × State) : Prop := q.1 = r.1 ∧ SameButFaults r.2 q.2

section
variable {s t : State}

theorem SameButFaults.refl (s : State) : SameButFaults s s := ⟨_, _, _, rfl⟩

/-! A branch on a condition that does not read the flags -/

theorem SameButFaults.dite {p : Prop} [Decidable p] {s₁ t₁ : p → State} {s₂ t₂ : ¬ p → State}
    (h₁ : ∀ hp, SameButFaults (s₁ hp) (t₁ hp)) (h₂ : ∀ hp, SameButFaults (s₂ hp) (t₂ hp)) :
    SameButFaults (if hp : p then s₁ hp else s₂ hp) (if hp : p then t₁ hp else t₂ hp) := by
  split
  · exact h₁ _
  · exact h₂ _

theorem SameButFaults.ite {p : Prop} [Decidable p] {s₁ s₂ t₁ t₂ : State}
    (h₁ : SameButFaults s₁ t₁) (h₂ : SameButFaults s₂ t₂) :
    SameButFaults (if p then s₁ else s₂) (if p then t₁ else t₂) :=
  .dite (fun _ => h₁) (fun _ => h₂)

theorem SameAnswer.ite {α : Type} {p : Prop} [Decidable p] {r₁ r₂ q₁ q₂ : α × State}
    (h₁ : SameAnswer r₁ q₁) (h₂ : SameAnswer r₂ q₂) :
    SameAnswer (if p then r₁ else r₂) (if p then q₁ else q₂) := by
  split
  · exact h₁
  · exact h₂

/-- A second operation behind an answer `OK`, another behind any other one. -/
theorem SameAnswer.ite_ok {α : Type} {r q : Status × State} (h : SameAnswer r q)
    {f g : State → α × State} (hf : ∀ {x y}, SameButFaults x y → SameAnswer (f x) (f y))
    (hg : ∀ {x y}, SameButFaults x y → SameAnswer (g x) (g y)) :
    SameAnswer (if r.1 = .ok then f r.2 else g r.2) (if q.1 = .ok then f q.2 else g q.2) := by
  obtain ⟨hst, hs⟩ := h
  rw [hst]
  exact .ite (hf hs) (hg hs)

/-! ### The primitives -/

theorem takeDraw_sameButFaults (h : SameButFaults s t) : SameButFaults s.takeDraw t.takeDraw := by
  obtain ⟨a, b, c, rfl⟩ := h
  exact ⟨a, b, c, rfl⟩

theorem respond_sameButFaults (st : Status) (d : Word) (h : SameButFaults s t) :
    SameButFaults (respond st d s) (respond st d t) := by
  obtain ⟨a, b, c, rfl⟩ := h
  exact ⟨a, b, c, rfl⟩

theorem ecConfigure_sameAnswer (g : Arg) (h : SameButFaults s t) :
    SameAnswer (ecConfigure g s) (ecConfigure g t) := by
  obtain ⟨a, b, c, rfl⟩ := h
  exact .ite ⟨rfl, a, b, c, rfl⟩ ⟨rfl, a, b, c, rfl⟩

theorem registerWp_sameAnswer (p : WatchPoint) (h : SameButFaults s t) :
    SameAnswer (registerWp p s) (registerWp p t) := by
  obtain ⟨a, b, c, rfl⟩ := h
  cases p with
  | full => exact .ite ⟨rfl, a, b, c, rfl⟩ ⟨rfl, a, b, c, rfl⟩
  | flip v => exact .ite ⟨rfl, a, b, c, rfl⟩ (.ite ⟨rfl, a, b, c, rfl⟩ ⟨rfl, a, b, c, rfl⟩)

theorem unregisterWp_sameAnswer (p : WatchPoint) (h : SameButFaults s t) :
    SameAnswer (unregisterWp p s) (unregisterWp p t) := by
  obtain ⟨a, b, c, rfl⟩ := h
  cases p <;> exact .ite ⟨rfl, a, b, c, rfl⟩ ⟨rfl, a, b, c, rfl⟩

theorem withWatchPoint_sameAnswer {slot : WatchPoint → State → Status × State}
    (hslot : ∀ p {x y}, SameButFaults x y → SameAnswer (slot p x) (slot p y)) (v : Nat)
    (h : SameButFaults s t) :
    SameAnswer (withWatchPoint slot v s) (withWatchPoint slot v t) := by
  have hdrawn := takeDraw_sameButFaults h
  obtain ⟨a, b, c, rfl⟩ := h
  refine .ite ⟨rfl, hdrawn⟩ (.ite ⟨rfl, hdrawn⟩ ?_)
  cases watchPoint? v with
  | none => exact ⟨rfl, hdrawn⟩
  | some p => exact hslot p hdrawn

theorem ecAddWp_sameAnswer (v : Nat) (h : SameButFaults s t) :
    SameAnswer (ecAddWp v s) (ecAddWp v t) :=
  withWatchPoint_sameAnswer (fun p => registerWp_sameAnswer p) v h

theorem ecRemoveWp_sameAnswer (v : Nat) (h : SameButFaults s t) :
    SameAnswer (ecRemoveWp v s) (ecRemoveWp v t) :=
  withWatchPoint_sameAnswer (fun p => unregisterWp_sameAnswer p) v h

theorem ecClear_sameAnswer (h : SameButFaults s t) : SameAnswer (ecClear s) (ecClear t) := by
  obtain ⟨a, b, c, rfl⟩ := h
  exact .ite ⟨rfl, a, b, c, rfl⟩ ⟨rfl, a, b, c, rfl⟩

theorem dtConfigure_sameAnswer (h : SameButFaults s t) :
    SameAnswer (dtConfigure s) (dtConfigure t) := by
  obtain ⟨a, b, c, rfl⟩ := h
  exact .ite ⟨rfl, a, b, c, rfl⟩ ⟨rfl, a, b, c, rfl⟩

theorem dtResetAndStart_sameAnswer (h : SameButFaults s t) :
    SameAnswer (dtResetAndStart s) (dtResetAndStart t) := by
  obtain ⟨a, b, c, rfl⟩ := h
  exact .ite ⟨rfl, a, b, c, rfl⟩ ⟨rfl, a, b, c, rfl⟩

theorem dtStop_sameAnswer (h : SameButFaults s t) : SameAnswer (dtStop s) (dtStop t) := by
  obtain ⟨a, b, c, rfl⟩ := h
  exact .ite ⟨rfl, a, b, c, rfl⟩ ⟨rfl, a, b, c, rfl⟩

/-! ### The commands -/

theorem directCommand_sameButFaults {p : State → Status × State}
    (hp : SameAnswer (p s) (p t)) (h : SameButFaults s t) :
    SameButFaults (directCommand p s) (directCommand p t) := by
  have hrefused := respond_sameButFaults .invalidState 0 h
  have hdone : SameButFaults (respond (p s).1 0 (p s).2) (respond (p t).1 0 (p t).2) := by
    rw [hp.1]
    exact respond_sameButFaults _ 0 hp.2
  obtain ⟨a, b, c, rfl⟩ := h
  exact .ite hrefused hdone

theorem andThen_sameAnswer {r q : Status × State} {f : State → Status × State}
    (h : SameAnswer r q) (hf : ∀ {x y}, SameButFaults x y → SameAnswer (f x) (f y)) :
    SameAnswer (andThen r f) (andThen q f) := by
  unfold andThen
  have hst := h.1
  rw [hst]
  exact .ite (hf h.2) h

theorem addActiveFlip_sameAnswer (h : SameButFaults s t) :
    SameAnswer (addActiveFlip s) (addActiveFlip t) := by
  have hadd := ecAddWp_sameAnswer s.activeThreshold.val h
  obtain ⟨a, b, c, rfl⟩ := h
  exact .ite hadd ⟨rfl, a, b, c, rfl⟩

theorem engSetup_sameAnswer (h : SameButFaults s t) : SameAnswer (engSetup s) (engSetup t) :=
  andThen_sameAnswer
    (andThen_sameAnswer
      (andThen_sameAnswer (ecConfigure_sameAnswer _ h) (ecAddWp_sameAnswer _))
      addActiveFlip_sameAnswer)
    dtConfigure_sameAnswer

theorem engRun_sameButFaults (h : SameButFaults s t) : SameButFaults (engRun s) (engRun t) := by
  obtain ⟨a, b, c, rfl⟩ := h
  exact ⟨a, b, c, rfl⟩

theorem engFail_sameButFaults (h : SameButFaults s t) : SameButFaults (engFail s) (engFail t) := by
  obtain ⟨a, b, c, rfl⟩ := h
  exact ⟨a, b, c, rfl⟩

theorem request_sameButFaults (v : Threshold) (h : SameButFaults s t) :
    SameButFaults (request v s) (request v t) := by
  obtain ⟨a, b, c, rfl⟩ := h
  exact .ite ⟨a, b, c, rfl⟩ (.ite ⟨a, b, c, rfl⟩ ⟨a, b, c, rfl⟩)

/-- Both outcomes are next states, and they differ at most in the three flags. -/
def SameOutcome (o o' : Host.Outcome State Fault Refusal) : Prop :=
  ∃ u u', o = .next u ∧ o' = .next u' ∧ SameButFaults u u'

theorem SameOutcome.next {u u' : State} (h : SameButFaults u u') :
    SameOutcome (.next u) (.next u') := ⟨u, u', rfl, rfl, h⟩

theorem execEngStart_sameOutcome (h : SameButFaults s t) :
    SameOutcome (execEngStart s) (execEngStart t) := by
  have hrefused := respond_sameButFaults .invalidState 0 h
  obtain ⟨hst, hsetup⟩ := engSetup_sameAnswer h
  have hstarted := respond_sameButFaults .ok 0 (engRun_sameButFaults hsetup)
  have hfailed := respond_sameButFaults .hwFail 0 (engFail_sameButFaults hsetup)
  unfold execEngStart
  rw [hst]
  obtain ⟨a, b, c, rfl⟩ := h
  exact .next (.ite hrefused (.ite hstarted hfailed))

/-- `GET_STATUS` alone reads the flags (R187). -/
theorem exec_sameOutcome {i : Instr} (hi : i ≠ .getStatus) (h : SameButFaults s t) :
    SameOutcome (exec i s) (exec i t) := by
  cases i with
  | ecConfigure g => exact .next (directCommand_sameButFaults (ecConfigure_sameAnswer _ h) h)
  | ecAddWp v => exact .next (directCommand_sameButFaults (ecAddWp_sameAnswer v h) h)
  | ecRemoveWp v => exact .next (directCommand_sameButFaults (ecRemoveWp_sameAnswer v h) h)
  | ecClear => exact .next (directCommand_sameButFaults (ecClear_sameAnswer h) h)
  | dtConfigure => exact .next (directCommand_sameButFaults (dtConfigure_sameAnswer h) h)
  | dtResetAndStart => exact .next (directCommand_sameButFaults (dtResetAndStart_sameAnswer h) h)
  | dtStop => exact .next (directCommand_sameButFaults (dtStop_sameAnswer h) h)
  | engStart => exact execEngStart_sameOutcome h
  | setDutyCycle v =>
    refine .next ?_
    cases threshold? v with
    | none => exact respond_sameButFaults _ _ h
    | some x => exact respond_sameButFaults _ _ (request_sameButFaults x h)
  | ecGetCount | getFrequency | takeApplyResult =>
    obtain ⟨a, b, c, rfl⟩ := h
    exact .next (.ite ⟨a, b, c, rfl⟩ ⟨a, b, c, rfl⟩)
  | getDutyCycle | getTriggerCount | getCycleCount | getLastCycleTime =>
    obtain ⟨a, b, c, rfl⟩ := h
    exact .next ⟨a, b, c, rfl⟩
  | getStatus => exact absurd rfl hi

/-- The flags show in the data of `GET_STATUS` and nowhere else. -/
theorem execGetStatus_of_sameButFaults {u : State} (h : SameButFaults s t)
    (hu : exec .getStatus s = .next u) :
    ∃ u', exec .getStatus t = .next u' ∧
      u =
        { u' with
          faultWpOverrun := u.faultWpOverrun, faultArmSupersede := u.faultArmSupersede
          faultFlipUnrestored := u.faultFlipUnrestored, respData := u.respData } := by
  obtain ⟨a, b, c, rfl⟩ := h
  cases hu
  exact ⟨_, rfl, rfl⟩

/-! ### The environment's other steps -/

theorem reachCount_sameButFaults (n : Count) (h : SameButFaults s t) :
    SameButFaults (reachCount n s) (reachCount n t) := by
  obtain ⟨a, b, c, rfl⟩ := h
  exact .ite ⟨a || s.evtFlipPending, b, c, rfl⟩ ⟨a, b, c, rfl⟩

theorem wrapCount_sameButFaults (h : SameButFaults s t) :
    SameButFaults (wrapCount s) (wrapCount t) := by
  obtain ⟨a, b, c, rfl⟩ := h
  exact .ite ⟨a || s.evtFullPending, b, c, rfl⟩ ⟨a, b, c, rfl⟩

theorem rise_sameButFaults (h : SameButFaults s t) : SameButFaults (rise s) (rise t) := by
  have hreach := fun n => reachCount_sameButFaults n h
  have hwrap := wrapCount_sameButFaults h
  obtain ⟨a, b, c, rfl⟩ := h
  exact .ite (.dite (fun _ => hreach _) fun _ => hwrap) ⟨a, b, c, rfl⟩

theorem tick_sameButFaults (h : SameButFaults s t) : SameButFaults (tick s) (tick t) := by
  obtain ⟨a, b, c, rfl⟩ := h
  exact .ite (.ite ⟨a, b, c, rfl⟩ ⟨a, b, c, rfl⟩) ⟨a, b, c, rfl⟩

/-! ### The handlers -/

theorem schedule_sameButFaults (l : Level) (h : SameButFaults s t) :
    SameButFaults (schedule l s) (schedule l t) := by
  refine (dtResetAndStart_sameAnswer ?_).2
  obtain ⟨a, b, c, rfl⟩ := h
  exact ⟨a, b || s.pol.isSome, c, rfl⟩

theorem dcRollback_sameAnswer (removed : Bool) (old : Count) (h : SameButFaults s t) :
    SameAnswer (dcRollback removed old s) (dcRollback removed old t) := by
  refine .ite ⟨rfl, h⟩ ((ecAddWp_sameAnswer old.val h).ite_ok
    (f := fun x => (ApplyResult.failRolledBack, x))
    (g := fun x => (.failUnrestored, { x with faultFlipUnrestored := true }))
    (fun hx => ⟨rfl, hx⟩) ?_)
  rintro x _ ⟨a, b, c, rfl⟩
  exact ⟨rfl, a, b, true, rfl⟩

theorem dcAddHalf_sameAnswer (p : Threshold) (removed : Bool) (old : Count)
    (h : SameButFaults s t) :
    SameAnswer (dcAddHalf p removed old s) (dcAddHalf p removed old t) :=
  .ite ((ecAddWp_sameAnswer p.val h).ite_ok (f := fun x => (ApplyResult.ok, x))
    (fun hx => ⟨rfl, hx⟩) (dcRollback_sameAnswer removed old)) ⟨rfl, h⟩

theorem dcSwap_sameAnswer (p : Threshold) (h : SameButFaults s t) :
    SameAnswer (dcSwap p s) (dcSwap p t) := by
  have hremove := (ecRemoveWp_sameAnswer s.wpFlipVal.val h).ite_ok
    (dcAddHalf_sameAnswer p true s.wpFlipVal) (g := fun x => (.failRemove, x))
    (fun hx => ⟨rfl, hx⟩)
  have hadd := dcAddHalf_sameAnswer p false s.wpFlipVal h
  obtain ⟨a, b, c, rfl⟩ := h
  exact .ite hremove hadd

theorem finishApply_sameButFaults (p : Threshold) {r q : ApplyResult × State}
    (h : SameAnswer r q) : SameButFaults (finishApply p r) (finishApply p q) := by
  obtain ⟨hres, a, b, c, hx⟩ := h
  exact ⟨a, b, c, by rw [finishApply, finishApply, hres, hx]; rfl⟩

theorem dcApplyPending_sameButFaults (h : SameButFaults s t) :
    SameButFaults (dcApplyPending s) (dcApplyPending t) := by
  have hswap := finishApply_sameButFaults s.pendingThreshold (dcSwap_sameAnswer s.pendingThreshold h)
  obtain ⟨a, b, c, rfl⟩ := h
  exact .ite ⟨a, b, c, rfl⟩ (.ite ⟨a, b, c, rfl⟩ hswap)

theorem recordCycle_sameButFaults (h : SameButFaults s t) :
    SameButFaults (recordCycle s) (recordCycle t) := by
  obtain ⟨a, b, c, rfl⟩ := h
  exact ⟨a, b, c, rfl⟩

theorem scheduleBoundary_sameButFaults (h : SameButFaults s t) :
    SameButFaults (scheduleBoundary s) (scheduleBoundary t) := by
  have hschedule := schedule_sameButFaults (boundaryLevel s) h
  obtain ⟨a, b, c, rfl⟩ := h
  exact hschedule

theorem fullBranch_sameButFaults (h : SameButFaults s t) :
    SameButFaults (fullBranch s) (fullBranch t) :=
  scheduleBoundary_sameButFaults (dcApplyPending_sameButFaults
    (ecClear_sameAnswer (recordCycle_sameButFaults h)).2)

theorem wpBranch_sameButFaults (v : Nat) (h : SameButFaults s t) :
    SameButFaults (wpBranch v s) (wpBranch v t) := by
  have hflip := schedule_sameButFaults .low h
  have hfull := fullBranch_sameButFaults h
  obtain ⟨a, b, c, rfl⟩ := h
  exact .ite hflip (.ite hfull ⟨a, b, c, rfl⟩)

theorem enterWatchPoint_sameAnswer (h : SameButFaults s t) :
    SameAnswer (enterWatchPoint s) (enterWatchPoint t) := by
  obtain ⟨a, b, c, rfl⟩ := h
  exact .ite ⟨rfl, a, b, c, rfl⟩ ⟨rfl, a, b, c, rfl⟩

theorem countTrigger_sameButFaults (h : SameButFaults s t) :
    SameButFaults (countTrigger s) (countTrigger t) := by
  obtain ⟨a, b, c, rfl⟩ := h
  exact ⟨a, b, c, rfl⟩

theorem wpService_sameButFaults (h : SameButFaults s t) :
    SameButFaults (wpService s) (wpService t) := by
  obtain ⟨hv, hx⟩ := enterWatchPoint_sameAnswer h
  unfold wpService
  rw [hv]
  exact wpBranch_sameButFaults _ (countTrigger_sameButFaults hx)

theorem enterExpiry_sameButFaults (h : SameButFaults s t) :
    SameButFaults (enterExpiry s) (enterExpiry t) := by
  obtain ⟨a, b, c, rfl⟩ := h
  exact ⟨a, b, c, rfl⟩

theorem writePin_sameButFaults (h : SameButFaults s t) :
    SameButFaults (writePin s) (writePin t) := by
  obtain ⟨a, b, c, rfl⟩ := h
  have hpol : (s.withFaults a b c).pol = s.pol := rfl
  unfold writePin
  rw [hpol]
  cases s.pol <;> exact ⟨a, b, c, rfl⟩

theorem dtService_sameButFaults (h : SameButFaults s t) :
    SameButFaults (dtService s) (dtService t) :=
  writePin_sameButFaults (dtStop_sameAnswer (enterExpiry_sameButFaults h)).2

/-! ### One step -/

theorem command_sameOutcome {w : Word} (hw : decode w ≠ .ok .getStatus) (h : SameButFaults s t) :
    SameOutcome (command w s) (command w t) := by
  unfold command
  cases hi : decode w with
  | error e => exact .next (respond_sameButFaults _ _ h)
  | ok i => exact exec_sameOutcome (fun he => hw (he ▸ hi)) h

theorem fire_sameOutcome {l : Label} (hl : ¬ l.runs .getStatus) (h : SameButFaults s t) :
    SameOutcome (fire l s) (fire l t) := by
  cases l with
  | wpService => exact .next (wpService_sameButFaults h)
  | dtService => exact .next (dtService_sameButFaults h)
  | input e =>
    cases e with
    | rise => exact .next (rise_sameButFaults h)
    | fall => exact .next h
    | tick => exact .next (tick_sameButFaults h)
    | reset =>
      obtain ⟨a, b, c, rfl⟩ := h
      exact .next (.refl _)
    | cmd w => exact command_sameOutcome (fun hw => hl ⟨w, rfl, hw⟩) h

theorem spendDeferral_sameButFaults (h : SameButFaults s t) :
    SameButFaults (spendDeferral s) (spendDeferral t) := by
  obtain ⟨a, b, c, rfl⟩ := h
  exact .ite ⟨a, b, c, rfl⟩ ⟨a, b, c, rfl⟩

theorem consume_sameButFaults (l : Label) (h : SameButFaults s t) :
    SameButFaults (consume l s) (consume l t) := by
  obtain ⟨a, b, c, rfl⟩ := h
  cases l <;> exact ⟨a, b, c, rfl⟩

/-- The flags of the first state on the second give the first back. -/
theorem SameButFaults.eq_with_faults (h : SameButFaults s t) :
    s =
      { t with
        faultWpOverrun := s.faultWpOverrun, faultArmSupersede := s.faultArmSupersede
        faultFlipUnrestored := s.faultFlipUnrestored, respData := s.respData } ∧
    t.respData = s.respData := by
  obtain ⟨a, b, c, rfl⟩ := h
  exact ⟨rfl, rfl⟩

end

/-- One word alone selects `GET_STATUS` (R84). -/
theorem eq_of_decode_getStatus {w : Word} (h : decode w = .ok .getStatus) : w = 0x45000000 := by
  unfold decode at h
  split at h
  case h_17 hop =>
    obtain ⟨harg, -⟩ := (formatZ_ok_iff w _ _).1 h
    rw [← opField_append_argField w, harg, BitVec.eq_of_toNat_eq (y := 0x45#8) hop]
    rfl
  all_goals simp [formatZ_ok_iff] at h

/-- Settles O49: the step of each label but `GET_STATUS` takes states that differ in the flags alone to
such states, with the same response (`fire_sameOutcome`). -/
theorem faultFlagsChangeNoRule : Obligations.FaultFlagsChangeNoRule := by
  intro s t a b c hstep
  have hspent : SameButFaults (spendDeferral s) (spendDeferral (s.withFaults a b c)) :=
    spendDeferral_sameButFaults ⟨a, b, c, rfl⟩
  change ∃ t', step (s.withFaults a b c) = .next t' ∧ _
  have hnext : nextLabel? (s.withFaults a b c) = nextLabel? s := rfl
  rcases step_cases hstep with ⟨hl, rfl⟩ | ⟨l, hl, hfire⟩
  · obtain ⟨heq, hdata⟩ := hspent.eq_with_faults
    exact ⟨_, step_of_noLabel (hnext.trans hl), heq, fun _ => hdata⟩
  rw [step_of_nextLabel (hnext.trans hl), hl]
  have hx := consume_sameButFaults l hspent
  by_cases hg : l.runs .getStatus
  · obtain ⟨w, rfl, hw⟩ := hg
    have hfire' : exec .getStatus (consume (.input (.cmd w)) (spendDeferral s)) = .next t := by
      simpa only [fire, command, hw] using hfire
    obtain ⟨t', ht', heq⟩ := execGetStatus_of_sameButFaults hx hfire'
    refine ⟨t', by simpa only [fire, command, hw] using ht', heq, fun hne => ?_⟩
    exact absurd (by rw [eq_of_decode_getStatus hw]) hne
  · obtain ⟨u, u', hu, hu', h⟩ := fire_sameOutcome hg hx
    obtain rfl : u = t := Host.Outcome.next.inj (hu.symm.trans hfire)
    obtain ⟨heq, hdata⟩ := h.eq_with_faults
    exact ⟨u', hu', heq, fun _ => hdata⟩

end Sys2Proof.Machine

/-! ## The command port and the pure reads (O1, O2, O44) -/

namespace Sys2Proof.Machine

/-! ### The environment's next step: its place in the schedule, and what it leaves -/

theorem nextLabel?_of_lags {s : State} (hl : handlerLags s = true) :
    nextLabel? s = s.inputs.head?.map .input := by
  rcases nextLabel?_cases s with ⟨-, h⟩ | ⟨-, -, hn, -⟩ | ⟨-, -, -, hn, -⟩
  · exact h
  · simp [hn] at hl
  · simp [hn] at hl

/-- With no handler due, the environment's next step runs and the schedule is left as it is (R8). -/
theorem step_input_of_quiet {s : State} {e : Input} {rest : List Input} (hq : Quiet s)
    (hin : s.inputs = e :: rest) : step s = fire (.input e) { s with inputs := rest } := by
  have hl : nextLabel? s = some (.input e) := by rw [nextLabel?_of_quiet hq, hin]; rfl
  rw [step_of_nextLabel hl, spendDeferral_of_quiet hq, consume, hin, List.tail_cons]

/-- A due handler that lags lets the environment's next step run, and its lag bit is used up (R207). -/
theorem step_input_of_lag {s : State} {e : Input} {rest : List Input} {later : List Bool}
    (hh : handlerEnabled s = true) (hd : s.deferrals = true :: later)
    (hin : s.inputs = e :: rest) :
    step s = fire (.input e) { s with inputs := rest, deferrals := later } := by
  have hl : nextLabel? s = some (.input e) := by
    rw [nextLabel?_of_lags (by simp [handlerLags, hd]), hin]; rfl
  have hspend : spendDeferral s = { s with deferrals := later } := by simp [spendDeferral, hh, hd]
  rw [step_of_nextLabel hl, hspend, consume, hin, List.tail_cons]

theorem fire_cmd_of_decode {w : Word} {i : Instr} (hw : decode w = .ok i) (s : State) :
    fire (.input (.cmd w)) s = exec i s := by
  simp [fire, command, hw]

/-- Settles O1: whether no handler is due or the due one lags, the environment's next step is the one
that runs, and it is the command the word selects. -/
theorem stepRunsThePresentedCommand : Obligations.StepRunsThePresentedCommand := by
  intro s w rest i hin hw
  constructor
  · intro hq
    rw [step_input_of_quiet hq hin, fire_cmd_of_decode hw]
  · intro later hh hd
    rw [step_input_of_lag hh hd hin, fire_cmd_of_decode hw]

/-! ### A placed word -/

/-- The schedule's fields are no part of what enables a handler (R207). -/
theorem handlerEnabled_presentCommand (w : Word) (s : State) :
    handlerEnabled (presentCommand w s) = handlerEnabled s := rfl

theorem step_presentCommand (w : Word) (s : State) : step (presentCommand w s) = command w s := by
  cases hh : handlerEnabled s with
  | false =>
    have hdef : (presentCommand w s).deferrals = s.deferrals := by simp [presentCommand, hh]
    rw [step_input_of_quiet ((handlerEnabled_presentCommand w s).trans hh) rfl, hdef]
    rfl
  | true =>
    have hlag : (presentCommand w s).deferrals = true :: s.deferrals := by
      simp [presentCommand, hh]
    rw [step_input_of_lag ((handlerEnabled_presentCommand w s).trans hh) hlag rfl]
    rfl

theorem tableWord_32 (w : Nat) : tableWord 32 w = BitVec.ofNat 32 w := by
  apply BitVec.eq_of_toNat_eq
  simp [tableWord]

/-- Settles O2: placing a word adds a lag bit exactly where a handler is due, so the word's step runs
next and leaves the schedule as it was (`step_presentCommand`). -/
theorem placedWordRunsNext : Obligations.PlacedWordRunsNext := by
  intro s w
  rw [State.withFetchWord, tableWord_32, step_presentCommand]

/-! ### The pure reads (R65) -/

@[simp] theorem respond_respond (st st' : Status) (d d' : Word) (s : State) :
    respond st d (respond st' d' s) = respond st d s := rfl

/-- A command that only answers, the answer not depending on the one that stands in the response. -/
def PureRead (i : Instr) : Prop :=
  ∀ s, ∃ st d, ∀ st' d', exec i (respond st' d' s) = .next (respond st d s)

/-- A pure read changes nothing but the response, and its own answer does not change the next one. -/
theorem PureRead.idempotent {i : Instr} (hi : PureRead i) {s t : State} (h : exec i s = .next t) :
    t = { s with respStatus := t.respStatus, respData := t.respData } ∧ exec i t = .next t := by
  obtain ⟨st, d, hanswer⟩ := hi s
  have hs : exec i s = .next (respond st d s) := hanswer s.respStatus s.respData
  obtain rfl : respond st d s = t := Host.Outcome.next.inj (hs.symm.trans h)
  exact ⟨rfl, hanswer st d⟩

theorem pureRead_ecGetCount : PureRead .ecGetCount := by
  intro s
  cases hc : s.ecConfigured with
  | true => exact ⟨.ok, countData s.ecCount, fun _ _ => by simp [exec, execEcGetCount, hc]⟩
  | false => exact ⟨.invalidState, 0, fun _ _ => by simp [exec, execEcGetCount, hc]⟩

theorem pureRead_getFrequency : PureRead .getFrequency := by
  intro s
  cases hv : s.lastCycleValid with
  | true =>
    exact ⟨.ok, freqMilliHz s.lastCycleTimeUs, fun _ _ => by simp [exec, execGetFrequency, hv]⟩
  | false => exact ⟨.notValid, 0, fun _ _ => by simp [exec, execGetFrequency, hv]⟩

theorem pureRead_getDutyCycle : PureRead .getDutyCycle :=
  fun s => ⟨.ok, dutyData s.activeThreshold, fun _ _ => rfl⟩

theorem pureRead_getTriggerCount : PureRead .getTriggerCount :=
  fun s => ⟨.ok, s.triggerCount, fun _ _ => rfl⟩

theorem pureRead_getCycleCount : PureRead .getCycleCount :=
  fun s => ⟨.ok, s.cycleCount, fun _ _ => rfl⟩

theorem pureRead_getLastCycleTime : PureRead .getLastCycleTime :=
  fun s => ⟨.ok, s.lastCycleTimeUs, fun _ _ => rfl⟩

theorem pureRead_getStatus : PureRead .getStatus :=
  fun s => ⟨.ok, statusWord s, fun _ _ => rfl⟩

/-- Settles O44: each of the seven is a pure read, and a pure read repeats itself. -/
theorem readsAreIdempotent : Obligations.ReadsAreIdempotent := by
  intro i hi s t h
  have hread : PureRead i := by
    simp only [List.mem_cons, List.not_mem_nil, or_false] at hi
    rcases hi with rfl | rfl | rfl | rfl | rfl | rfl | rfl
    exacts [pureRead_ecGetCount, pureRead_getDutyCycle, pureRead_getTriggerCount,
      pureRead_getCycleCount, pureRead_getLastCycleTime, pureRead_getFrequency, pureRead_getStatus]
  exact hread.idempotent h

end Sys2Proof.Machine

/-! ## Encoding, decoding, the opcode table and the assembler (O3 to O8) -/

namespace Sys2Proof

/-! ### The argument field (R81, R94) -/

theorem zext24_ofNat {n : Nat} (h : unsignedArgFits n) : zext24 (BitVec.ofNat 24 n) = n := by
  rw [zext24, BitVec.toNat_ofNat, Nat.mod_eq_of_lt h]

theorem sext24_ofInt {t : Int} (h : signedArgFits t) : sext24 (BitVec.ofInt 24 t) = t := by
  obtain ⟨hlo, hhi⟩ := h
  rw [sext24, BitVec.toInt_ofInt]
  exact Int.bmod_eq_of_le (by omega) (by omega)

theorem unsignedArgFits_zext24 (a : Arg) : unsignedArgFits (zext24 a) := a.isLt

theorem signedArgFits_sext24 (a : Arg) : signedArgFits (sext24 a) :=
  ⟨BitVec.le_toInt a, BitVec.toInt_lt⟩

@[simp] theorem ofNat_zext24 (a : Arg) : BitVec.ofNat 24 (zext24 a) = a := by
  simp [zext24]

@[simp] theorem ofInt_sext24 (a : Arg) : BitVec.ofInt 24 (sext24 a) = a := BitVec.ofInt_toInt

/-! ### Decoding and encoding are inverse (R80, R84, R94) -/

theorem append_eq_iff (op : BitVec 8) (a : Arg) (w : Word) :
    op ++ a = w ↔ op = opField w ∧ a = argField w := by
  constructor
  · rintro rfl
    exact ⟨(opField_append op a).symm, (argField_append op a).symm⟩
  · rintro ⟨rfl, rfl⟩
    exact opField_append_argField w

/-- The encoding of a command whose opcode is compared as `decode` compares it. -/
theorem encode_eq_of_fields {i : Instr} {w : Word} (hop : (opField w).toNat = (opcode i).toNat)
    (harg : argument i = argField w) : encode i = w :=
  (append_eq_iff _ _ _).2 ⟨BitVec.eq_of_toNat_eq hop.symm, harg⟩

theorem encode_of_formatZ {w : Word} {i j : Instr} (h : formatZ w i = .ok j)
    (hop : (opField w).toNat = (opcode i).toNat) (hwf : i.wellFormed = true)
    (harg : argument i = 0) : j.wellFormed = true ∧ encode j = w := by
  obtain ⟨hzero, rfl⟩ := (formatZ_ok_iff w i j).1 h
  exact ⟨hwf, encode_eq_of_fields hop (harg.trans hzero.symm)⟩

/-- Each opcode's case of the decoder reads the operand from the low field, or asks that the field
be 0; either way the low field is the command's argument again. -/
theorem encode_of_decode {w : Word} {i : Instr} (h : decode w = .ok i) :
    i.wellFormed = true ∧ encode i = w := by
  unfold decode at h
  split at h
  case h_1 hop | h_2 hop | h_3 hop =>
    cases h
    exact ⟨decide_eq_true (unsignedArgFits_zext24 _), encode_eq_of_fields hop (ofNat_zext24 _)⟩
  case h_10 hop =>
    cases h
    exact ⟨decide_eq_true (signedArgFits_sext24 _), encode_eq_of_fields hop (ofInt_sext24 _)⟩
  case h_18 => cases h
  all_goals exact encode_of_formatZ h ‹_› rfl rfl

theorem decode_encode {i : Instr} (h : i.wellFormed = true) : decode (encode i) = .ok i := by
  unfold decode
  rw [opField_encode, argField_encode]
  cases i with
  | ecConfigure n | ecAddWp n | ecRemoveWp n =>
    have hn : zext24 (BitVec.ofNat 24 n) = n := zext24_ofNat (of_decide_eq_true h)
    simp [opcode, argument, hn]
  | setDutyCycle t =>
    have ht : sext24 (BitVec.ofInt 24 t) = t := sext24_ofInt (of_decide_eq_true h)
    simp [opcode, argument, ht]
  | _ => rfl

/-- Settles O4: by cases on the command; an operand in R94's range comes back from its 24 bits. -/
theorem decodeOfEncode : Obligations.DecodeOfEncode := fun _ => decode_encode

/-- Settles O5: by cases on the opcode; the 24 bits come back from the operand read from them. -/
theorem encodeOfDecode : Obligations.EncodeOfDecode := fun _ _ => encode_of_decode

/-- Settles O7, by evaluating the decoder on the seven words. -/
theorem exampleWordsDecode : Obligations.ExampleWordsDecode := by
  unfold Obligations.ExampleWordsDecode
  decide

/-! ### The opcode table (R84) -/

/-- How every row of the table is printed: its pattern is an opcode over a zero field, and its mask
covers the opcode alone in Format A and the whole word in Format Z. -/
theorem opcodeTable_shape : ∀ row ∈ opcodeTable, argField row.pattern = 0 ∧
    row.mask = match row.format with | .A => 0xFF000000 | .Z => BitVec.allOnes 32 := by decide

/-- A row constrains the opcode, and in Format Z the low field too. -/
theorem selectedBy_iff {row : Row} (hrow : row ∈ opcodeTable) (w : Word) :
    row.selectedBy w = true ↔
      opField w = opField row.pattern ∧ (row.format = .Z → argField w = 0) := by
  obtain ⟨hpat, hmask⟩ := opcodeTable_shape row hrow
  rw [Row.selectedBy, beq_iff_eq, hmask, ← hpat]
  cases row.format with
  | A =>
    have hw := Laws.WordSelectsRow.op_masked (opField w) (argField w)
    rw [opField_append_argField] at hw
    simp [hw, append_eq_iff, hpat]
  | Z =>
    rw [BitVec.and_allOnes, ← opField_append_argField w, append_eq_iff]
    simp

/-- No two rows have one opcode. -/
theorem row_eq_of_opField_eq : ∀ row ∈ opcodeTable, ∀ other ∈ opcodeTable,
    opField other.pattern = opField row.pattern → other = row := by decide

theorem selectedBy_unique {row other : Row} {w : Word} (hrow : row ∈ opcodeTable)
    (hother : other ∈ opcodeTable) (h : row.selectedBy w = true) (h' : other.selectedBy w = true) :
    other = row := by
  obtain ⟨hop, -⟩ := (selectedBy_iff hrow w).1 h
  obtain ⟨hop', -⟩ := (selectedBy_iff hother w).1 h'
  exact row_eq_of_opField_eq row hrow other hother (hop'.symm.trans hop)

/-- The word of every command selects the command's row. -/
theorem wordSelectsRow (i : Instr) : Laws.WordSelectsRow.Statement i := by
  cases i with
  | ecConfigure g => exact Laws.WordSelectsRow.ecConfigure g
  | ecAddWp v => exact Laws.WordSelectsRow.ecAddWp v
  | ecRemoveWp v => exact Laws.WordSelectsRow.ecRemoveWp v
  | ecClear => exact Laws.WordSelectsRow.ecClear
  | ecGetCount => exact Laws.WordSelectsRow.ecGetCount
  | dtConfigure => exact Laws.WordSelectsRow.dtConfigure
  | dtResetAndStart => exact Laws.WordSelectsRow.dtResetAndStart
  | dtStop => exact Laws.WordSelectsRow.dtStop
  | engStart => exact Laws.WordSelectsRow.engStart
  | setDutyCycle t => exact Laws.WordSelectsRow.setDutyCycle t
  | getDutyCycle => exact Laws.WordSelectsRow.getDutyCycle
  | getTriggerCount => exact Laws.WordSelectsRow.getTriggerCount
  | getCycleCount => exact Laws.WordSelectsRow.getCycleCount
  | getLastCycleTime => exact Laws.WordSelectsRow.getLastCycleTime
  | getFrequency => exact Laws.WordSelectsRow.getFrequency
  | takeApplyResult => exact Laws.WordSelectsRow.takeApplyResult
  | getStatus => exact Laws.WordSelectsRow.getStatus

theorem exists_row_of_decode {w : Word} {i : Instr} (h : decode w = .ok i) :
    ∃ row ∈ opcodeTable, row.selectedBy w = true ∧ row.mnemonic = i.mnemonic := by
  obtain ⟨row, hrow, hname, hsel, -⟩ := wordSelectsRow i
  rw [(encode_of_decode h).2] at hsel
  exact ⟨row, hrow, hsel, hname⟩

theorem formatZ_of_zero {w : Word} (h : argField w = 0) (i : Instr) : formatZ w i = .ok i :=
  (formatZ_ok_iff w i i).2 ⟨h, rfl⟩

/-- The decoder knows the opcode of every row, and asks no more of the low field than the row. -/
theorem exists_decode_of_fields {row : Row} (hrow : row ∈ opcodeTable) {w : Word}
    (hop : opField w = opField row.pattern) (harg : row.format = .Z → argField w = 0) :
    ∃ i, decode w = .ok i := by
  unfold decode
  rw [hop]
  simp only [opcodeTable, List.mem_cons, List.not_mem_nil, or_false] at hrow
  rcases hrow with rfl | rfl | rfl | rfl | rfl | rfl | rfl | rfl | rfl | rfl | rfl | rfl | rfl |
    rfl | rfl | rfl | rfl
  all_goals simp [opField, formatZ_of_zero, harg]

/-- Settles O6: a decoded word is its command's encoding, which selects the command's row; and a
selected row fixes the opcode, so it is the only one. -/
theorem decoderFollowsOpcodeTable : Obligations.DecoderFollowsOpcodeTable := by
  refine ⟨fun _ _ => exists_row_of_decode, fun w row hrow hsel => ⟨?_, ?_⟩⟩
  · obtain ⟨hop, harg⟩ := (selectedBy_iff hrow w).1 hsel
    obtain ⟨i, hi⟩ := exists_decode_of_fields hrow hop harg
    obtain ⟨other, hother, hsel', hname⟩ := exists_row_of_decode hi
    rw [selectedBy_unique hrow hother hsel hsel'] at hname
    exact ⟨i, hi, hname.symm⟩
  · exact fun other hother hsel' => selectedBy_unique hrow hother hsel hsel'

/-! ### Illegal words (R85) -/

theorem selectedBy_eq_false_iff {row : Row} (hrow : row ∈ opcodeTable) (w : Word) :
    row.selectedBy w = false ↔
      (opField w = opField row.pattern → row.format = .Z ∧ argField w ≠ 0) := by
  rw [← Bool.not_eq_true, selectedBy_iff hrow, not_and, Classical.not_imp]

theorem decode_error_of_unselected {w : Word} (h : ∀ row ∈ opcodeTable, row.selectedBy w = false) :
    ∃ e, decode w = .error e := by
  cases hd : decode w with
  | error e => exact ⟨e, rfl⟩
  | ok i =>
    obtain ⟨row, hrow, hsel, -⟩ := exists_row_of_decode hd
    simp [h row hrow] at hsel

/-- The opcodes of the table, as R84 lists them. -/
theorem opcodes_eq :
    [0x10, 0x11, 0x12, 0x13, 0x14, 0x20, 0x21, 0x22, 0x30, 0x31, 0x32, 0x40, 0x41, 0x42, 0x43, 0x44,
      0x45] = opcodeTable.map fun row => opField row.pattern := by decide

/-- The opcodes of the Format Z rows, as R84 lists them. -/
theorem formatZ_opcodes_eq :
    [0x13, 0x14, 0x20, 0x21, 0x22, 0x30, 0x32, 0x40, 0x41, 0x42, 0x43, 0x44, 0x45] =
      (opcodeTable.filter (·.format = .Z)).map fun row => opField row.pattern := by decide

/-- A word selects no row exactly when no row has its opcode, or a Format Z row has it and the low
field is not 0. -/
theorem unselected_iff (w : Word) :
    (∀ row ∈ opcodeTable, row.selectedBy w = false) ↔
      (∀ row ∈ opcodeTable, opField row.pattern ≠ opField w) ∨
      (∃ row ∈ opcodeTable, row.format = .Z ∧ opField row.pattern = opField w) ∧
        argField w ≠ 0 := by
  constructor
  · intro h
    by_cases hop : ∃ row ∈ opcodeTable, opField row.pattern = opField w
    · obtain ⟨row, hrow, hop⟩ := hop
      obtain ⟨hz, harg⟩ := (selectedBy_eq_false_iff hrow w).1 (h row hrow) hop.symm
      exact .inr ⟨⟨row, hrow, hz, hop⟩, harg⟩
    · exact .inl fun row hrow heq => hop ⟨row, hrow, heq⟩
  · intro h row hrow
    refine (selectedBy_eq_false_iff hrow w).2 fun hop => ?_
    rcases h with hnone | ⟨⟨other, hother, hz, hop'⟩, harg⟩
    · exact absurd hop.symm (hnone row hrow)
    · rw [← row_eq_of_opField_eq row hrow other hother (hop'.trans hop)]
      exact ⟨hz, harg⟩

/-- Settles O3: the words that select no row, by the table's opcodes (`unselected_iff`), and the
step of such a word, which runs no command. -/
theorem illegalWordAnswersUnknownOp : Obligations.IllegalWordAnswersUnknownOp := by
  intro w
  constructor
  · rw [opcodes_eq, formatZ_opcodes_eq, unselected_iff]
    simp [and_assoc]
  · intro h s hlabel
    obtain ⟨e, hd⟩ := decode_error_of_unselected h
    rw [Machine.step_of_nextLabel hlabel]
    simp only [Machine.fire, Machine.command, hd]
    rfl

/-! ### The assembler (R94, R95) -/

theorem unsignedArg?_eq_some_iff (v : Int) (n : Nat) :
    unsignedArg? v = some n ↔ (n : Int) = v ∧ unsignedArgFits n := by
  unfold unsignedArg?
  split
  · simp only [Option.some.injEq]
    omega
  · simp only [reduceCtorEq, false_iff]
    omega

theorem signedArg?_eq_some_iff (v t : Int) : signedArg? v = some t ↔ t = v ∧ signedArgFits t := by
  unfold signedArg?
  split
  · simp only [Option.some.injEq]
    omega
  · simp only [reduceCtorEq, false_iff]
    omega

@[simp] theorem parse_ecConfigure (v : Int) :
    parse "EC_CONFIGURE" (some v) = (unsignedArg? v).map .ecConfigure := rfl

@[simp] theorem parse_ecAddWp (v : Int) :
    parse "EC_ADD_WP" (some v) = (unsignedArg? v).map .ecAddWp := rfl

@[simp] theorem parse_ecRemoveWp (v : Int) :
    parse "EC_REMOVE_WP" (some v) = (unsignedArg? v).map .ecRemoveWp := rfl

@[simp] theorem parse_setDutyCycle (v : Int) :
    parse "SET_DUTY_CYCLE" (some v) = (signedArg? v).map .setDutyCycle := rfl

@[simp] theorem parse_setDutyPercent (p : Int) :
    parse "SET_DUTY_PERCENT" (some p) = setDutyPercent? p := rfl

theorem parse_mnemonic {i : Instr} (h : i.wellFormed = true) :
    parse i.mnemonic i.value? = some i := by
  cases i with
  | ecConfigure n | ecAddWp n | ecRemoveWp n =>
    have hn : unsignedArg? (n : Int) = some n :=
      (unsignedArg?_eq_some_iff n n).2 ⟨rfl, of_decide_eq_true h⟩
    simp [Instr.mnemonic, Instr.value?, hn]
  | setDutyCycle t =>
    have ht : signedArg? t = some t := (signedArg?_eq_some_iff t t).2 ⟨rfl, of_decide_eq_true h⟩
    simp [Instr.mnemonic, Instr.value?, ht]
  | _ => rfl

/-- What the assembler accepts: a well-formed command by its own name and operand, or one of the two
names of R95. -/
theorem parse_cases {m : String} {v : Option Int} {i : Instr} (h : parse m v = some i) :
    (i.mnemonic = m ∧ i.value? = v ∧ i.wellFormed = true) ∨
      m = "REQUEST_DUTY_CYCLE" ∨ m = "SET_DUTY_PERCENT" := by
  unfold parse at h
  split at h
  case h_1 | h_2 | h_3 =>
    obtain ⟨n, hn, rfl⟩ := Option.map_eq_some_iff.1 h
    obtain ⟨hv, hfits⟩ := (unsignedArg?_eq_some_iff _ _).1 hn
    exact .inl ⟨rfl, congrArg some hv, decide_eq_true hfits⟩
  case h_10 =>
    obtain ⟨t, ht, rfl⟩ := Option.map_eq_some_iff.1 h
    obtain ⟨hv, hfits⟩ := (signedArg?_eq_some_iff _ _).1 ht
    exact .inl ⟨rfl, congrArg some hv, decide_eq_true hfits⟩
  case h_11 => exact .inr (.inl rfl)
  case h_12 => exact .inr (.inr rfl)
  case h_20 => cases h
  all_goals
    cases h
    exact .inl ⟨rfl, rfl, rfl⟩

theorem unsignedArg?_eq_none {v : Int} (h : v < 0 ∨ 2 ^ 24 ≤ v) : unsignedArg? v = none :=
  if_neg (by omega)

theorem signedArg?_eq_none {t : Int} (h : t < -(2 ^ 23) ∨ 2 ^ 23 ≤ t) : signedArg? t = none :=
  if_neg (by omega)

theorem mnemonic_mem_opcodeTable (i : Instr) : i.mnemonic ∈ opcodeTable.map Row.mnemonic := by
  obtain ⟨row, hrow, hname, -⟩ := wordSelectsRow i
  exact List.mem_map.2 ⟨row, hrow, hname⟩

/-- A name of the table is accepted only as the well-formed command of that name and operand. -/
theorem assemble_mnemonic {m : String} (hm : m ∈ opcodeTable.map Row.mnemonic) {v : Option Int}
    {w : Word} (h : assemble m v = some w) :
    ∃ i : Instr, i.mnemonic = m ∧ i.value? = v ∧ i.wellFormed = true ∧ w = encode i ∧
      decode w = .ok i := by
  obtain ⟨i, hi, rfl⟩ := Option.map_eq_some_iff.1 h
  rcases parse_cases hi with ⟨hname, hv, hwf⟩ | rfl | rfl
  · exact ⟨i, hname, hv, hwf, rfl, decode_encode hwf⟩
  · exact absurd hm (by decide)
  · exact absurd hm (by decide)

theorem assemble_of_wellFormed {i : Instr} (h : i.wellFormed = true) :
    assemble i.mnemonic i.value? = some (encode i) := by
  rw [assemble, parse_mnemonic h, Option.map_some]

theorem assemble_requestDutyCycle (v : Option Int) :
    assemble "REQUEST_DUTY_CYCLE" v = assemble "SET_DUTY_CYCLE" v := by
  cases v <;> rfl

theorem assemble_percent (p : Int) : assemble "SET_DUTY_PERCENT" (some p) =
    if 0 ≤ p ∧ p ≤ 100 ∧ p % 5 = 0 then some (encode (.setDutyCycle (p * 20 / 100))) else none := by
  rw [assemble, parse_setDutyPercent, setDutyPercent?]
  split <;> rfl

theorem assemble_setDutyCycle_out_of_range {t : Int} (h : t < -(2 ^ 23) ∨ 2 ^ 23 ≤ t) :
    assemble "SET_DUTY_CYCLE" (some t) = none := by
  simp [assemble, signedArg?_eq_none h]

theorem assemble_unsigned_out_of_range {v : Int} (h : v < 0 ∨ 2 ^ 24 ≤ v) :
    ∀ m ∈ ["EC_CONFIGURE", "EC_ADD_WP", "EC_REMOVE_WP"], assemble m (some v) = none := by
  simp [assemble, unsignedArg?_eq_none h]

theorem assemble_other_name {m : String} (hm : m ∉ opcodeTable.map Row.mnemonic)
    (hrequest : m ≠ "REQUEST_DUTY_CYCLE") (hpercent : m ≠ "SET_DUTY_PERCENT") (v : Option Int) :
    assemble m v = none := by
  refine Option.map_eq_none_iff.2 (Option.eq_none_iff_forall_ne_some.2 fun i hi => ?_)
  rcases parse_cases hi with ⟨rfl, -⟩ | h | h
  · exact hm (mnemonic_mem_opcodeTable i)
  · exact hrequest h
  · exact hpercent h

/-- Settles O8: the names listed are those of the opcode table, and each clause is a fact about what
the assembler accepts. -/
theorem assembledWordDecodes : Obligations.AssembledWordDecodes := by
  unfold Obligations.AssembledWordDecodes
  intro names
  have hnames : names = opcodeTable.map Row.mnemonic := rfl
  rw [hnames]
  exact ⟨fun _ hm _ _ => assemble_mnemonic hm,
    fun i hi => ⟨mnemonic_mem_opcodeTable i, assemble_of_wellFormed hi⟩,
    assemble_requestDutyCycle, assemble_percent, fun _ => assemble_setDutyCycle_out_of_range,
    fun _ => assemble_unsigned_out_of_range, fun _ => assemble_other_name⟩

end Sys2Proof

/-! ## The status codes of a command's answer (O60) -/

namespace Sys2Proof.Machine

/-! ### The numbers of R83 -/

theorem Status.code_le_five (st : Status) : st.code.toNat ≤ 5 := by
  cases st <;> decide

theorem Status.code_eq_four_iff (st : Status) : st.code = 4#8 ↔ st = .unknownOp := by
  cases st <;> decide

theorem Status.code_eq_zero_iff (st : Status) : st.code = 0#8 ↔ st = .ok := by
  cases st <;> decide

/-! ### No primitive answers `ERR_UNKNOWN_OP` -/

theorem ecConfigure_status (g : Arg) (s : State) : (ecConfigure g s).1 ≠ .unknownOp := by
  rcases ecConfigure_cases g s with ⟨-, e⟩ | ⟨-, e⟩ <;> simp [e]

theorem registerWp_status (p : WatchPoint) (s : State) : (registerWp p s).1 ≠ .unknownOp := by
  cases p with
  | full => simp only [registerWp]; split <;> simp
  | flip v => simp only [registerWp]; split_ifs <;> simp

theorem unregisterWp_status (p : WatchPoint) (s : State) : (unregisterWp p s).1 ≠ .unknownOp := by
  cases p with
  | full => simp only [unregisterWp]; split <;> simp
  | flip v => simp only [unregisterWp]; split_ifs <;> simp

/-- The refusals of R101 and R102 have their own statuses, so only the slot's part matters. -/
theorem withWatchPoint_status {slot : WatchPoint → State → Status × State}
    (hslot : ∀ p s, (slot p s).1 ≠ .unknownOp) (v : Nat) (s : State) :
    (withWatchPoint slot v s).1 ≠ .unknownOp := by
  unfold withWatchPoint
  split_ifs
  · simp
  · simp
  · split
    · simp
    · exact hslot _ _

theorem ecAddWp_status (v : Nat) (s : State) : (ecAddWp v s).1 ≠ .unknownOp :=
  withWatchPoint_status registerWp_status v s

theorem ecRemoveWp_status (v : Nat) (s : State) : (ecRemoveWp v s).1 ≠ .unknownOp :=
  withWatchPoint_status unregisterWp_status v s

theorem ecClear_status (s : State) : (ecClear s).1 ≠ .unknownOp := by
  rcases ecClear_cases s with ⟨-, e⟩ | ⟨-, e⟩ <;> simp [e]

theorem dtConfigure_status (s : State) : (dtConfigure s).1 ≠ .unknownOp := by
  rcases dtConfigure_cases s with ⟨-, e⟩ | ⟨-, e⟩ <;> simp [e]

theorem dtResetAndStart_status (s : State) : (dtResetAndStart s).1 ≠ .unknownOp := by
  rcases dtResetAndStart_cases s with ⟨-, e⟩ | ⟨-, e⟩ <;> simp [e]

theorem dtStop_status (s : State) : (dtStop s).1 ≠ .unknownOp := by
  rcases dtStop_cases s with ⟨-, e⟩ | ⟨-, e⟩ <;> simp [e]

/-! ### The answer of a legal word (R82, R83) -/

/-- The response is one that a legal word can have: the status is not `ERR_UNKNOWN_OP`, and an error
carries no data. -/
def LegalAnswer (t : State) : Prop :=
  t.respStatus ≠ .unknownOp ∧ (t.respStatus ≠ .ok → t.respData = 0)

theorem respond_ok_legalAnswer (d : Word) (s : State) : LegalAnswer (respond .ok d s) :=
  ⟨nofun, fun h => absurd rfl h⟩

theorem respond_zero_legalAnswer {st : Status} (h : st ≠ .unknownOp) (s : State) :
    LegalAnswer (respond st 0 s) :=
  ⟨h, fun _ => rfl⟩

theorem directCommand_legalAnswer {p : State → Status × State}
    (hp : ∀ s, (p s).1 ≠ .unknownOp) (s : State) : LegalAnswer (directCommand p s) := by
  rcases directCommand_cases p s with ⟨-, e⟩ | ⟨-, e⟩ <;> rw [e]
  · exact respond_zero_legalAnswer (by decide) s
  · exact respond_zero_legalAnswer (hp s) _

/-- Whatever a command does, it answers as a legal word may. -/
theorem exec_legalAnswer {i : Instr} {s t : State} (h : exec i s = .next t) : LegalAnswer t := by
  cases i with
  | engStart =>
    rcases execEngStart_cases h with ⟨-, rfl⟩ | ⟨-, -, rfl⟩ | ⟨-, -, rfl⟩
    · exact respond_zero_legalAnswer (by decide) _
    · exact respond_ok_legalAnswer _ _
    · exact respond_zero_legalAnswer (by decide) _
  | ecConfigure g => cases h; exact directCommand_legalAnswer (ecConfigure_status _) s
  | ecAddWp v => cases h; exact directCommand_legalAnswer (ecAddWp_status v) s
  | ecRemoveWp v => cases h; exact directCommand_legalAnswer (ecRemoveWp_status v) s
  | ecClear => cases h; exact directCommand_legalAnswer ecClear_status s
  | dtConfigure => cases h; exact directCommand_legalAnswer dtConfigure_status s
  | dtResetAndStart => cases h; exact directCommand_legalAnswer dtResetAndStart_status s
  | dtStop => cases h; exact directCommand_legalAnswer dtStop_status s
  | setDutyCycle _ =>
    cases h
    split
    · exact respond_zero_legalAnswer (by decide) s
    · exact respond_ok_legalAnswer _ _
  | ecGetCount | getFrequency | takeApplyResult =>
    cases h
    split
    · exact respond_ok_legalAnswer _ _
    · exact respond_zero_legalAnswer (by decide) s
  | getDutyCycle | getTriggerCount | getCycleCount | getLastCycleTime | getStatus =>
    cases h
    exact respond_ok_legalAnswer _ s

theorem command_status_spec {w : Word} {s t : State} (h : command w s = .next t) :
    t.respStatus.code.toNat ≤ 5 ∧
      (∀ e, decode w = .error e → t.respStatus.code = 4#8) ∧
      (∀ i, decode w = .ok i → t.respStatus.code ≠ 4#8) ∧
      (t.respStatus.code ≠ 0#8 → t.respData = 0) := by
  refine ⟨t.respStatus.code_le_five, ?_⟩
  simp only [ne_eq, Status.code_eq_four_iff, Status.code_eq_zero_iff]
  rcases command_cases w s with ⟨e, hd, he⟩ | ⟨i, hd, he⟩ <;> rw [he] at h
  · cases h
    simp [hd]
  · obtain ⟨hknown, hdata⟩ := exec_legalAnswer h
    simpa [hd, hknown] using hdata

/-! ### One command for each number (R83) -/

theorem exec_setDutyCycle_out_of_range {v : Int} (h : v < 0 ∨ 20 < v) (s : State) :
    exec (.setDutyCycle v) s = .next (respond .invalidArg 0 s) := by
  rcases threshold?_cases v with ⟨hv, -⟩ | ⟨_, -, -, hlo, hhi⟩
  · simp only [exec, execSetDutyCycle, hv]
  · omega

theorem exec_ecClear_of_running {s : State} (h : s.engState = .running) :
    exec .ecClear s = .next (respond .invalidState 0 s) := by
  simp [exec, execEcClear, directCommand, h]

/-- A start whose first draw fails takes that draw only (R136). -/
theorem engSetup_of_nextDraw {s : State} (h : s.nextDraw = true) :
    engSetup s = (.hwFail, s.takeDraw) := by
  have hconf : ecConfigure Config.glitchFilterNs s = (.hwFail, s.takeDraw) := if_pos h
  simp [engSetup, hconf, andThen]

theorem exec_engStart_of_nextDraw {s : State} (hidle : s.engState = .idle)
    (h : s.nextDraw = true) :
    exec .engStart s = .next (respond .hwFail 0 (engFail s.takeDraw)) := by
  simp [exec, execEngStart, hidle, engSetup_of_nextDraw h]

theorem exec_getFrequency_of_invalid {s : State} (h : s.lastCycleValid = false) :
    exec .getFrequency s = .next (respond .notValid 0 s) := by
  simp [exec, execGetFrequency, h]

/-- Settles O60: the numbers are a table of the six statuses, a legal word never answers
`ERR_UNKNOWN_OP`, and each number is some command's. -/
theorem statusCodesAreThoseOfTheSpec : Obligations.StatusCodesAreThoseOfTheSpec := by
  refine ⟨fun _ _ _ => command_status_spec, fun s => ⟨?_, ?_, ?_, ?_, ?_⟩⟩
  · exact fun v hv => ⟨_, exec_setDutyCycle_out_of_range hv s, rfl⟩
  · exact fun hr => ⟨_, exec_ecClear_of_running hr, rfl⟩
  · intro hidle hdraw
    rw [drawAt_zero] at hdraw
    exact ⟨_, exec_engStart_of_nextDraw hidle hdraw, rfl⟩
  · exact fun hv => ⟨_, exec_getFrequency_of_invalid hv, rfl⟩
  · exact ⟨_, rfl, rfl⟩

end Sys2Proof.Machine

/-! ## The Edge Counter's commands and edges (O9 to O15) -/

namespace Sys2Proof

/-! ### A word by its fields (R80) -/

/-- The word made of a command's opcode and argument selects the command. -/
theorem decode_append {i : Instr} {op : BitVec 8} {a : Arg} (hwf : i.wellFormed = true)
    (hop : opcode i = op) (harg : argument i = a) : decode (op ++ a) = .ok i := by
  rw [← hop, ← harg]
  exact decode_encode hwf

end Sys2Proof

namespace Sys2Proof.Machine

/-! ### Direct commands (R215), an equation per case -/

section
variable {p : State → Status × State} {s t : State} {st : Status}

theorem directCommand_refused (hr : s.engState = .running) :
    directCommand p s = respond .invalidState 0 s := if_pos hr

theorem directCommand_admitted (hn : s.engState ≠ .running) (h : p s = (st, t)) :
    directCommand p s = respond st 0 t := by
  rw [directCommand, if_neg hn, h]

end

/-! ### The checks of R101 and R102 in their order, an equation per outcome -/

section
variable {slot : WatchPoint → State → Status × State} {v : Nat} {s : State}

theorem withWatchPoint_of_draw (hd : s.nextDraw = true) :
    withWatchPoint slot v s = (.hwFail, s.takeDraw) := if_pos hd

theorem withWatchPoint_of_unconfigured (hd : s.nextDraw = false) (hc : s.ecConfigured = false) :
    withWatchPoint slot v s = (.invalidState, s.takeDraw) := by
  simp [withWatchPoint, hd, hc]

theorem withWatchPoint_of_watchPoint? (hd : s.nextDraw = false) (hc : s.ecConfigured = true)
    {p : WatchPoint} (hp : watchPoint? v = some p) :
    withWatchPoint slot v s = slot p s.takeDraw := by
  simp [withWatchPoint, hd, hc, hp]

theorem watchPoint?_eq_none (hv : v = 0 ∨ Config.N < v) : watchPoint? v = none := by
  have hN : Config.N = 20 := rfl
  rcases watchPoint?_cases v with ⟨h, -⟩ | ⟨hlt, hpos, -⟩ | ⟨htop, -⟩
  · exact h
  · omega
  · omega

theorem withWatchPoint_of_out_of_range (hd : s.nextDraw = false) (hc : s.ecConfigured = true)
    (hv : v = 0 ∨ Config.N < v) : withWatchPoint slot v s = (.invalidArg, s.takeDraw) := by
  simp [withWatchPoint, hd, hc, watchPoint?_eq_none hv]

end

/-! ### `EC.configure` and `EC.clear` (R100, R103), an equation per case -/

theorem ecConfigure_of_draw {s : State} (g : Arg) (hd : s.nextDraw = true) :
    ecConfigure g s = (.hwFail, s.takeDraw) := if_pos hd

theorem ecConfigure_of_no_draw {s : State} (g : Arg) (hd : s.nextDraw = false) :
    ecConfigure g s =
      (.ok,
        { s.takeDraw with
          ecConfigured := true, ecGlitchNs := g, ecCount := 0
          wpFlipValid := false, wpFullValid := false
          evtFlipPending := false, evtFullPending := false }) := by
  simp [ecConfigure, hd]

theorem ecClear_of_configured {s : State} (hc : s.ecConfigured = true) :
    ecClear s = (.ok, { s with ecCount := 0 }) := if_pos hc

theorem ecClear_of_unconfigured {s : State} (hc : s.ecConfigured = false) :
    ecClear s = (.invalidState, s) := by simp [ecClear, hc]

/-! ### The slots (R101, R102), an equation per case -/

section
variable {c : Count} {s : State}

theorem registerWp_full_of_valid (h : s.wpFullValid = true) :
    registerWp .full s = (.invalidState, s) := if_pos h

theorem registerWp_full_of_free (h : s.wpFullValid = false) :
    registerWp .full s = (.ok, { s with wpFullValid := true }) := by simp [registerWp, h]

theorem registerWp_flip_of_same (h : s.wpFlipValid = true) (hc : s.wpFlipVal = c) :
    registerWp (.flip c) s = (.invalidState, s) := if_pos ⟨h, hc⟩

theorem registerWp_flip_of_other (h : s.wpFlipValid = true) (hc : s.wpFlipVal ≠ c) :
    registerWp (.flip c) s = (.hwFail, s) := by simp [registerWp, h, hc]

theorem registerWp_flip_of_free (h : s.wpFlipValid = false) :
    registerWp (.flip c) s = (.ok, { s with wpFlipValid := true, wpFlipVal := c }) := by
  simp [registerWp, h]

theorem unregisterWp_full_of_valid (h : s.wpFullValid = true) :
    unregisterWp .full s = (.ok, { s with wpFullValid := false }) := if_pos h

theorem unregisterWp_full_of_free (h : s.wpFullValid = false) :
    unregisterWp .full s = (.invalidState, s) := by simp [unregisterWp, h]

theorem unregisterWp_flip_of_same (h : s.wpFlipValid = true) (hc : s.wpFlipVal = c) :
    unregisterWp (.flip c) s = (.ok, { s with wpFlipValid := false }) := if_pos ⟨h, hc⟩

theorem unregisterWp_flip_of_absent (h : s.wpFlipValid = false ∨ s.wpFlipVal ≠ c) :
    unregisterWp (.flip c) s = (.invalidState, s) :=
  if_neg fun ⟨hv, hc⟩ => h.elim (by simp [hv]) (absurd hc)

end

/-! ### The commands -/

/-- Settles O9: refused, or one of the two outcomes of `EC.configure`. -/
theorem ecConfigureFollowsItsRule : Obligations.EcConfigureFollowsItsRule := by
  refine ⟨fun a => decode_append (decide_eq_true a.isLt) rfl (ofNat_zext24 a), fun s g _ =>
    ⟨fun hr => ?_, fun hn hd => ?_, fun hn hd => ?_⟩⟩
  · exact congrArg _ (directCommand_refused hr)
  · exact congrArg _ (directCommand_admitted hn (ecConfigure_of_draw _ hd))
  · exact congrArg _ (directCommand_admitted hn (ecConfigure_of_no_draw _ hd))

/-- Settles O10: the checks of R101 in their order, then the slot of the value. -/
theorem ecAddWpFollowsItsRule : Obligations.EcAddWpFollowsItsRule := by
  refine ⟨fun a => decode_append (decide_eq_true a.isLt) rfl (ofNat_zext24 a), fun s =>
    ⟨fun v hr => congrArg _ (directCommand_refused hr), fun hn => ?_⟩⟩
  have answer {v : Nat} {st : Status} {t : State} (h : ecAddWp v s = (st, t)) :
      exec (.ecAddWp v) s = .next (respond st 0 t) := congrArg _ (directCommand_admitted hn h)
  refine ⟨fun v hd => answer (withWatchPoint_of_draw hd),
    fun v hd hc => answer (withWatchPoint_of_unconfigured hd hc), fun hd hc => ?_⟩
  have registered {v : Nat} {p : WatchPoint} (hp : watchPoint? v = some p) :
      ecAddWp v s = registerWp p s.takeDraw := withWatchPoint_of_watchPoint? hd hc hp
  have full := registered watchPoint?_N
  refine ⟨fun v hv => answer (withWatchPoint_of_out_of_range hd hc hv),
    fun hf => answer (full.trans (registerWp_full_of_valid hf)),
    fun hf => answer (full.trans (registerWp_full_of_free hf)), fun c h0 => ?_⟩
  have flip := registered (watchPoint?_flip c h0)
  exact ⟨fun hf he => answer (flip.trans (registerWp_flip_of_same hf he)),
    fun hf he => answer (flip.trans (registerWp_flip_of_other hf he)),
    fun hf => answer (flip.trans (registerWp_flip_of_free hf))⟩

/-- Settles O11: the checks of R102 in their order, then the slot of the value. -/
theorem ecRemoveWpFollowsItsRule : Obligations.EcRemoveWpFollowsItsRule := by
  refine ⟨fun a => decode_append (decide_eq_true a.isLt) rfl (ofNat_zext24 a), fun s =>
    ⟨fun v hr => congrArg _ (directCommand_refused hr), fun hn => ?_⟩⟩
  have answer {v : Nat} {st : Status} {t : State} (h : ecRemoveWp v s = (st, t)) :
      exec (.ecRemoveWp v) s = .next (respond st 0 t) := congrArg _ (directCommand_admitted hn h)
  refine ⟨fun v hd => answer (withWatchPoint_of_draw hd),
    fun v hd hc => answer (withWatchPoint_of_unconfigured hd hc), fun hd hc => ?_⟩
  have emptied {v : Nat} {p : WatchPoint} (hp : watchPoint? v = some p) :
      ecRemoveWp v s = unregisterWp p s.takeDraw := withWatchPoint_of_watchPoint? hd hc hp
  have full := emptied watchPoint?_N
  refine ⟨fun v hv => answer (withWatchPoint_of_out_of_range hd hc hv),
    fun hf => answer (full.trans (unregisterWp_full_of_free hf)),
    fun hf => answer (full.trans (unregisterWp_full_of_valid hf)), fun c h0 => ?_⟩
  have flip := emptied (watchPoint?_flip c h0)
  exact ⟨fun hf => answer (flip.trans (unregisterWp_flip_of_absent hf)),
    fun hf he => answer (flip.trans (unregisterWp_flip_of_same hf he))⟩

/-- Settles O12: an unconfigured counter and a running engine give one answer, the latter before the
primitive is called. -/
theorem ecClearFollowsItsRule : Obligations.EcClearFollowsItsRule := by
  refine ⟨by decide, fun s => ⟨fun h => ?_, fun hn hc => ?_⟩⟩
  · by_cases hr : s.engState = .running
    · exact exec_ecClear_of_running hr
    · have hc : s.ecConfigured = false := h.resolve_left hr
      exact congrArg _ (directCommand_admitted hr (ecClear_of_unconfigured hc))
  · exact congrArg _ (directCommand_admitted hn (ecClear_of_configured hc))

/-- Settles O13: the answer turns on the counter's configuration alone. -/
theorem ecGetCountFollowsItsRule : Obligations.EcGetCountFollowsItsRule := by
  refine ⟨by decide, fun s => ⟨fun hc => ?_, fun hc => ?_⟩⟩
  · exact congrArg _ (if_neg (Bool.eq_false_iff.1 hc))
  · exact congrArg _ (if_pos hc)

/-! ### The edges (R110, R111) -/

section
variable {s : State}

theorem rise_of_unconfigured (hc : s.ecConfigured = false) : rise s = s :=
  if_neg (Bool.eq_false_iff.1 hc)

theorem rise_at_top (hc : s.ecConfigured = true) (h : s.ecCount.val = 19) :
    rise s = wrapCount s := by
  simp [rise, hc, h]

theorem rise_below {c : Count} (hc : s.ecConfigured = true) (h : c.val = s.ecCount.val + 1) :
    rise s = reachCount c s := by
  have hlt : s.ecCount.val + 1 < 20 := h ▸ c.isLt
  obtain rfl : c = ⟨_, hlt⟩ := Fin.ext h
  simp [rise, hc, hlt]

end

/-- Settles O14: the four outcomes of a count, for the state the schedule leaves, which has the block's
own fields of the state before. -/
theorem riseCountsAndLatches : Obligations.RiseCountsAndLatches := by
  intro s hl s1
  have hstep : step s = .next (rise s1) := step_of_nextLabel hl
  have hconf : s1.ecConfigured = s.ecConfigured := by simp [s1]
  have hcount : s1.ecCount = s.ecCount := by simp [s1]
  have hflip : s1.wpFlipValid = s.wpFlipValid := by simp [s1]
  have hval : s1.wpFlipVal = s.wpFlipVal := by simp [s1]
  have hfull : s1.wpFullValid = s.wpFullValid := by simp [s1]
  have hover : s1.faultWpOverrun = s.faultWpOverrun := by simp [s1]
  have hevtFlip : s1.evtFlipPending = s.evtFlipPending := by simp [s1]
  have hevtFull : s1.evtFullPending = s.evtFullPending := by simp [s1]
  rw [hstep, ← hconf, ← hcount, ← hflip, ← hval, ← hfull, ← hover, ← hevtFlip, ← hevtFull]
  refine ⟨fun hc => ?_, fun hc h19 hf => ?_, fun hc h19 hf => ?_, fun hc c h => ⟨fun hf he => ?_,
    fun hno => ?_⟩⟩
  · rw [rise_of_unconfigured hc]
  · rw [rise_at_top hc h19]
    exact congrArg _ (if_neg (Bool.eq_false_iff.1 hf))
  · rw [rise_at_top hc h19]
    exact congrArg _ (if_pos hf)
  · rw [rise_below hc h]
    exact congrArg _ (if_pos ⟨hf, he⟩)
  · rw [rise_below hc h]
    exact congrArg _ (if_neg fun ⟨hf, he⟩ => hno.elim (by simp [hf]) (absurd he))

/-- Settles O15: beyond its place in the schedule the step is `fall`, which is the identity. -/
theorem fallChangesNothing : Obligations.FallChangesNothing := fun _ hl => step_of_nextLabel hl

end Sys2Proof.Machine

/-! ## The glitch setting has no effect on anything but itself (O50) -/

namespace Sys2Proof.Machine

/-! ### Writing the setting commutes with every operation that does not write it itself (R113) -/

/-- `s` with another glitch setting. -/
def State.withGlitch (g : Arg) (s : State) : State := { s with ecGlitchNs := g }

/-- Under another setting the answer is the same, and the state it leaves but for the setting. -/
def IgnoresGlitch {α : Type} (f : State → α × State) : Prop :=
  ∀ g s, f (s.withGlitch g) = (f s).map id (State.withGlitch g)

/-! A branch on a condition that does not read the setting -/

theorem dite_eq_map {α : Type} {p : Prop} [Decidable p] {f : α → α} {a a' : p → α} {b b' : ¬ p → α}
    (ha : ∀ h, a' h = f (a h)) (hb : ∀ h, b' h = f (b h)) :
    (if h : p then a' h else b' h) = f (if h : p then a h else b h) := by
  rw [apply_dite f, funext ha, funext hb]

theorem ite_eq_map {α : Type} {p : Prop} [Decidable p] {f : α → α} {a b a' b' : α}
    (ha : a' = f a) (hb : b' = f b) : (if p then a' else b') = f (if p then a else b) := by
  rw [apply_ite f, ha, hb]

/-! #### The primitives -/

theorem registerWp_ignoresGlitch (p : WatchPoint) : IgnoresGlitch (registerWp p) := by
  intro g s
  cases p with
  | full => exact ite_eq_map rfl rfl
  | flip v => exact ite_eq_map rfl (ite_eq_map rfl rfl)

theorem unregisterWp_ignoresGlitch (p : WatchPoint) : IgnoresGlitch (unregisterWp p) := by
  intro g s
  cases p <;> exact ite_eq_map rfl rfl

theorem withWatchPoint_ignoresGlitch {slot : WatchPoint → State → Status × State}
    (hslot : ∀ p, IgnoresGlitch (slot p)) (v : Nat) : IgnoresGlitch (withWatchPoint slot v) := by
  intro g s
  refine ite_eq_map rfl (ite_eq_map rfl ?_)
  cases watchPoint? v with
  | none => rfl
  | some p => exact hslot p g s.takeDraw

theorem ecAddWp_ignoresGlitch (v : Nat) : IgnoresGlitch (ecAddWp v) :=
  withWatchPoint_ignoresGlitch registerWp_ignoresGlitch v

theorem ecRemoveWp_ignoresGlitch (v : Nat) : IgnoresGlitch (ecRemoveWp v) :=
  withWatchPoint_ignoresGlitch unregisterWp_ignoresGlitch v

theorem ecClear_ignoresGlitch : IgnoresGlitch ecClear := fun _ _ => ite_eq_map rfl rfl

theorem dtConfigure_ignoresGlitch : IgnoresGlitch dtConfigure := fun _ _ => ite_eq_map rfl rfl

theorem dtResetAndStart_ignoresGlitch : IgnoresGlitch dtResetAndStart :=
  fun _ _ => ite_eq_map rfl rfl

theorem dtStop_ignoresGlitch : IgnoresGlitch dtStop := fun _ _ => ite_eq_map rfl rfl

/-! #### The environment's other steps -/

theorem reachCount_withGlitch (c : Count) (g : Arg) (s : State) :
    reachCount c (s.withGlitch g) = (reachCount c s).withGlitch g := ite_eq_map rfl rfl

theorem wrapCount_withGlitch (g : Arg) (s : State) :
    wrapCount (s.withGlitch g) = (wrapCount s).withGlitch g := ite_eq_map rfl rfl

theorem rise_withGlitch (g : Arg) (s : State) : rise (s.withGlitch g) = (rise s).withGlitch g :=
  ite_eq_map
    (dite_eq_map (fun _ => reachCount_withGlitch _ g s) fun _ => wrapCount_withGlitch g s) rfl

theorem tick_withGlitch (g : Arg) (s : State) : tick (s.withGlitch g) = (tick s).withGlitch g :=
  ite_eq_map (ite_eq_map rfl rfl) rfl

/-! #### The handlers -/

theorem schedule_withGlitch (l : Level) (g : Arg) (s : State) :
    schedule l (s.withGlitch g) = (schedule l s).withGlitch g :=
  congrArg Prod.snd (dtResetAndStart_ignoresGlitch g
    { s with faultArmSupersede := s.faultArmSupersede || s.pol.isSome, pol := some l })

theorem dcRollback_ignoresGlitch (removed : Bool) (old : Count) :
    IgnoresGlitch (dcRollback removed old) := by
  intro g s
  unfold dcRollback
  rw [ecAddWp_ignoresGlitch]
  exact ite_eq_map rfl (ite_eq_map rfl rfl)

theorem dcAddHalf_ignoresGlitch (p : Threshold) (removed : Bool) (old : Count) :
    IgnoresGlitch (dcAddHalf p removed old) := by
  intro g s
  unfold dcAddHalf
  rw [ecAddWp_ignoresGlitch]
  exact ite_eq_map (ite_eq_map rfl (dcRollback_ignoresGlitch removed old g _)) rfl

theorem dcSwap_ignoresGlitch (p : Threshold) : IgnoresGlitch (dcSwap p) := by
  intro g s
  unfold dcSwap
  rw [ecRemoveWp_ignoresGlitch]
  exact ite_eq_map (ite_eq_map (dcAddHalf_ignoresGlitch p true _ g _) rfl)
    (dcAddHalf_ignoresGlitch p false _ g s)

theorem dcApplyPending_withGlitch (g : Arg) (s : State) :
    dcApplyPending (s.withGlitch g) = (dcApplyPending s).withGlitch g :=
  ite_eq_map rfl (ite_eq_map rfl
    (congrArg (finishApply s.pendingThreshold) (dcSwap_ignoresGlitch s.pendingThreshold g s)))

theorem fullBranch_withGlitch (g : Arg) (s : State) :
    fullBranch (s.withGlitch g) = (fullBranch s).withGlitch g := by
  have hclear : (ecClear (recordCycle (s.withGlitch g))).2 =
      (ecClear (recordCycle s)).2.withGlitch g :=
    congrArg Prod.snd (ecClear_ignoresGlitch g (recordCycle s))
  unfold fullBranch
  rw [hclear, dcApplyPending_withGlitch]
  exact schedule_withGlitch _ g _

theorem wpBranch_withGlitch (v : Nat) (g : Arg) (s : State) :
    wpBranch v (s.withGlitch g) = (wpBranch v s).withGlitch g :=
  ite_eq_map (schedule_withGlitch .low g s) (ite_eq_map (fullBranch_withGlitch g s) rfl)

theorem enterWatchPoint_ignoresGlitch : IgnoresGlitch enterWatchPoint :=
  fun _ _ => ite_eq_map rfl rfl

theorem wpService_withGlitch (g : Arg) (s : State) :
    wpService (s.withGlitch g) = (wpService s).withGlitch g := by
  unfold wpService
  rw [enterWatchPoint_ignoresGlitch]
  exact wpBranch_withGlitch _ g (countTrigger (enterWatchPoint s).2)

theorem writePin_withGlitch (g : Arg) (s : State) :
    writePin (s.withGlitch g) = (writePin s).withGlitch g := by
  have hpol : (s.withGlitch g).pol = s.pol := rfl
  unfold writePin
  rw [hpol]
  cases s.pol <;> rfl

theorem dtService_withGlitch (g : Arg) (s : State) :
    dtService (s.withGlitch g) = (dtService s).withGlitch g := by
  have hstop := congrArg Prod.snd (dtStop_ignoresGlitch g (enterExpiry s))
  exact (congrArg writePin hstop).trans (writePin_withGlitch g _)

/-! #### The schedule -/

theorem spendDeferral_withGlitch (g : Arg) (s : State) :
    spendDeferral (s.withGlitch g) = (spendDeferral s).withGlitch g := ite_eq_map rfl rfl

theorem consume_withGlitch (l : Label) (g : Arg) (s : State) :
    consume l (s.withGlitch g) = (consume l s).withGlitch g := by cases l <;> rfl

/-! ### What writes the setting: `EC.configure`, and with it the start of the engine (R100, R136)

Where it succeeds the two runs meet; where its draw fails the setting stands. -/

theorem ecConfigure_withGlitch (h g : Arg) (s : State) :
    ∃ g', ecConfigure h (s.withGlitch g) = (ecConfigure h s).map id (State.withGlitch g') := by
  rcases ecConfigure_cases h s with ⟨hd, e⟩ | ⟨hd, e⟩
  · exact ⟨g, by rw [e]; exact ecConfigure_of_draw h hd⟩
  · exact ⟨h, by rw [e]; exact ecConfigure_of_no_draw h hd⟩

theorem addActiveFlip_ignoresGlitch : IgnoresGlitch addActiveFlip :=
  fun g s => ite_eq_map (ecAddWp_ignoresGlitch s.activeThreshold.val g s) rfl

theorem andThen_map_withGlitch {f : State → Status × State} (hf : IgnoresGlitch f) (g : Arg)
    (r : Status × State) :
    andThen (r.map id (State.withGlitch g)) f = (andThen r f).map id (State.withGlitch g) :=
  ite_eq_map (hf g r.2) rfl

theorem engSetup_withGlitch (g : Arg) (s : State) :
    ∃ g', engSetup (s.withGlitch g) = (engSetup s).map id (State.withGlitch g') := by
  obtain ⟨g', e⟩ := ecConfigure_withGlitch Config.glitchFilterNs g s
  refine ⟨g', ?_⟩
  rw [engSetup, e, andThen_map_withGlitch (ecAddWp_ignoresGlitch _),
    andThen_map_withGlitch addActiveFlip_ignoresGlitch,
    andThen_map_withGlitch dtConfigure_ignoresGlitch, engSetup]

/-! ### The commands -/

/-- With any other glitch setting before it, an outcome is a next state that differs in the setting
alone. -/
def SameButGlitch (F : State → Host.Outcome State Fault Refusal) : Prop :=
  ∀ g s, ∃ t g', F s = .next t ∧ F (s.withGlitch g) = .next (t.withGlitch g')

theorem SameButGlitch.next {f : State → State}
    (hf : ∀ g s, ∃ g', f (s.withGlitch g) = (f s).withGlitch g') :
    SameButGlitch fun s => .next (f s) := by
  intro g s
  obtain ⟨g', e⟩ := hf g s
  exact ⟨f s, g', rfl, congrArg _ e⟩

/-- An operation that does not write the setting. -/
theorem SameButGlitch.of_commutes {f : State → State}
    (hf : ∀ g s, f (s.withGlitch g) = (f s).withGlitch g) : SameButGlitch fun s => .next (f s) :=
  SameButGlitch.next fun g s => ⟨g, hf g s⟩

/-- A refused direct command leaves the setting as it is, an admitted one as its primitive does. -/
theorem directCommand_sameButGlitch {p : State → Status × State}
    (hp : ∀ g s, ∃ g', p (s.withGlitch g) = (p s).map id (State.withGlitch g')) :
    SameButGlitch fun s => .next (directCommand p s) := by
  refine SameButGlitch.next fun g s => ?_
  obtain ⟨g', e⟩ := hp g s
  rcases directCommand_cases p s with ⟨hr, hs⟩ | ⟨hn, hs⟩ <;> rw [hs]
  · exact ⟨g, directCommand_refused hr⟩
  · exact ⟨g', directCommand_admitted (t := (p s).2.withGlitch g') hn e⟩

theorem directCommand_sameButGlitch_of_ignores {p : State → Status × State} (hp : IgnoresGlitch p) :
    SameButGlitch fun s => .next (directCommand p s) :=
  directCommand_sameButGlitch fun g s => ⟨g, hp g s⟩

theorem execEngStart_sameButGlitch : SameButGlitch execEngStart := by
  refine SameButGlitch.next fun g s => ?_
  obtain ⟨g', e⟩ := engSetup_withGlitch g s
  by_cases hidle : s.engState = .idle
  · refine ⟨g', ?_⟩
    rw [if_neg (not_not.2 hidle), e]
    exact (if_neg (not_not.2 hidle)).trans (ite_eq_map rfl rfl)
  · refine ⟨g, ?_⟩
    rw [if_pos hidle]
    exact if_pos hidle

theorem request_withGlitch (v : Threshold) (g : Arg) (s : State) :
    request v (s.withGlitch g) = (request v s).withGlitch g :=
  ite_eq_map rfl (ite_eq_map rfl rfl)

theorem exec_sameButGlitch (i : Instr) : SameButGlitch (exec i) := by
  cases i with
  | ecConfigure n => exact directCommand_sameButGlitch (ecConfigure_withGlitch _)
  | ecAddWp v => exact directCommand_sameButGlitch_of_ignores (ecAddWp_ignoresGlitch v)
  | ecRemoveWp v => exact directCommand_sameButGlitch_of_ignores (ecRemoveWp_ignoresGlitch v)
  | ecClear => exact directCommand_sameButGlitch_of_ignores ecClear_ignoresGlitch
  | dtConfigure => exact directCommand_sameButGlitch_of_ignores dtConfigure_ignoresGlitch
  | dtResetAndStart => exact directCommand_sameButGlitch_of_ignores dtResetAndStart_ignoresGlitch
  | dtStop => exact directCommand_sameButGlitch_of_ignores dtStop_ignoresGlitch
  | engStart => exact execEngStart_sameButGlitch
  | setDutyCycle v =>
    refine SameButGlitch.of_commutes fun g s => ?_
    cases threshold? v with
    | none => rfl
    | some x => exact congrArg (respond .ok 0) (request_withGlitch x g s)
  | ecGetCount | getFrequency | takeApplyResult =>
    exact SameButGlitch.of_commutes fun _ _ => ite_eq_map rfl rfl
  | getDutyCycle | getTriggerCount | getCycleCount | getLastCycleTime | getStatus =>
    exact SameButGlitch.of_commutes fun _ _ => rfl

/-! ### One step -/

theorem command_sameButGlitch (w : Word) : SameButGlitch (command w) := by
  unfold command
  cases decode w with
  | error e => exact SameButGlitch.of_commutes fun _ _ => rfl
  | ok i => exact exec_sameButGlitch i

theorem fire_sameButGlitch (l : Label) : SameButGlitch (fire l) := by
  cases l with
  | wpService => exact SameButGlitch.of_commutes wpService_withGlitch
  | dtService => exact SameButGlitch.of_commutes dtService_withGlitch
  | input e =>
    cases e with
    | rise => exact SameButGlitch.of_commutes rise_withGlitch
    | fall => exact SameButGlitch.of_commutes fun _ _ => rfl
    | tick => exact SameButGlitch.of_commutes tick_withGlitch
    | cmd w => exact command_sameButGlitch w
    | reset => exact SameButGlitch.next fun _ _ => ⟨0, rfl⟩

theorem step_sameButGlitch : SameButGlitch step := by
  intro g s
  have hnext : nextLabel? (s.withGlitch g) = nextLabel? s := rfl
  cases hl : nextLabel? s with
  | none =>
    rw [step_of_noLabel hl, step_of_noLabel (hnext.trans hl), spendDeferral_withGlitch]
    exact ⟨_, g, rfl, rfl⟩
  | some l =>
    rw [step_of_nextLabel hl, step_of_nextLabel (hnext.trans hl), spendDeferral_withGlitch,
      consume_withGlitch]
    exact fire_sameButGlitch l g _

/-- Settles O50: no operation reads the setting, so two runs of one step that differ in it alone still
do after it (`step_sameButGlitch`). -/
theorem glitchSettingHasNoEffect : Obligations.GlitchSettingHasNoEffect := by
  intro s t g hstep
  obtain ⟨u, g', hu, hu'⟩ := step_sameButGlitch g s
  obtain rfl : u = t := Host.Outcome.next.inj (hu.symm.trans hstep)
  exact ⟨u.withGlitch g', hu', rfl⟩

end Sys2Proof.Machine

/-! ## The Delay Actuator's commands and ticks (O16 to O21) -/

namespace Sys2Proof.Machine

/-! ### The primitives (R120 to R122), an equation per case -/

section
variable {s : State}

theorem dtConfigure_of_draw (hd : s.nextDraw = true) : dtConfigure s = (.hwFail, s.takeDraw) :=
  if_pos hd

theorem dtConfigure_of_no_draw (hd : s.nextDraw = false) :
    dtConfigure s =
      (.ok,
        { s.takeDraw with
          dtConfigured := true, dtRunning := false, dtCount := 0, dtEvtPending := false }) :=
  if_neg (Bool.eq_false_iff.1 hd)

theorem dtResetAndStart_of_configured (hc : s.dtConfigured = true) :
    dtResetAndStart s =
      (.ok, { s with dtCount := 0, dtRunning := true, dtEvtPending := false }) := if_pos hc

theorem dtResetAndStart_of_unconfigured (hc : s.dtConfigured = false) :
    dtResetAndStart s = (.invalidState, s) := if_neg (Bool.eq_false_iff.1 hc)

theorem dtStop_of_configured (hc : s.dtConfigured = true) :
    dtStop s = (.ok, { s with dtRunning := false }) := if_pos hc

theorem dtStop_of_unconfigured (hc : s.dtConfigured = false) :
    dtStop s = (.invalidState, s) := if_neg (Bool.eq_false_iff.1 hc)

/-- A running engine and an unconfigured peripheral give one answer (R215, R121, R122). -/
theorem directCommand_invalidState {p : State → Status × State} {c : Bool}
    (hp : c = false → p s = (.invalidState, s)) (h : s.engState = .running ∨ c = false) :
    directCommand p s = respond .invalidState 0 s := by
  rcases directCommand_cases p s with ⟨-, e⟩ | ⟨hn, -⟩
  · exact e
  · exact directCommand_admitted hn (hp (h.resolve_left hn))

end

/-! ### The commands -/

/-- Settles O16: refused, or one of the two outcomes of `DT.configure`. -/
theorem dtConfigureFollowsItsRule : Obligations.DtConfigureFollowsItsRule := by
  refine ⟨by decide, fun s => ⟨fun hr => ?_, fun hn hd => ?_, fun hn hd => ?_⟩⟩
  · exact congrArg _ (directCommand_refused hr)
  · exact congrArg _ (directCommand_admitted hn (dtConfigure_of_draw hd))
  · exact congrArg _ (directCommand_admitted hn (dtConfigure_of_no_draw hd))

/-- Settles O17: refused, or the arm of `DT.reset_and_start`. -/
theorem dtResetAndStartFollowsItsRule : Obligations.DtResetAndStartFollowsItsRule := by
  refine ⟨by decide, fun s => ⟨fun h => ?_, fun hn hc => ?_⟩⟩
  · exact congrArg _ (directCommand_invalidState dtResetAndStart_of_unconfigured h)
  · exact congrArg _ (directCommand_admitted hn (dtResetAndStart_of_configured hc))

/-- Settles O18: refused, or the stop of `DT.stop`. -/
theorem dtStopFollowsItsRule : Obligations.DtStopFollowsItsRule := by
  refine ⟨by decide, fun s => ⟨fun h => ?_, fun hn hc => ?_⟩⟩
  · exact congrArg _ (directCommand_invalidState dtStop_of_unconfigured h)
  · exact congrArg _ (directCommand_admitted hn (dtStop_of_configured hc))

/-! ### One tick (R128), an equation per case -/

section
variable {s : State}

theorem tick_of_stopped (hr : s.dtRunning = false) : tick s = { s with now := s.now + 1 } :=
  if_neg (Bool.eq_false_iff.1 hr)

theorem tick_below_alarm (hr : s.dtRunning = true) (hc : s.dtCount + 1 ≠ 2000) :
    tick s = { s with now := s.now + 1, dtCount := s.dtCount + 1 } := by
  rcases tick_cases s with ⟨h, -⟩ | ⟨-, -, e⟩ | ⟨-, h, -⟩
  · exact absurd (hr.symm.trans h) (by decide)
  · exact e
  · exact absurd h hc

theorem tick_at_alarm (hr : s.dtRunning = true) (hc : s.dtCount + 1 = 2000) :
    tick s =
      { s with
        now := s.now + 1, dtCount := 2000, dtRunning := false, dtEvtPending := true } := by
  rcases tick_cases s with ⟨h, -⟩ | ⟨-, h, -⟩ | ⟨-, -, e⟩
  · exact absurd (hr.symm.trans h) (by decide)
  · exact absurd hc h
  · exact e

end

/-- Settles O19: the three outcomes of a tick, for the state the schedule leaves, which has the
clock and the timer of the state before. -/
theorem tickAdvancesClockAndTimer : Obligations.TickAdvancesClockAndTimer := by
  intro s hl s1
  have hstep : step s = .next (tick s1) := step_of_nextLabel hl
  have hrun : s1.dtRunning = s.dtRunning := by simp [s1]
  have hcount : s1.dtCount = s.dtCount := by simp [s1]
  have hnow : s1.now = s.now := by simp [s1]
  rw [hstep, ← hrun, ← hcount, ← hnow]
  exact ⟨fun hr => congrArg _ (tick_of_stopped hr),
    fun hr hc => congrArg _ (tick_below_alarm hr hc),
    fun hr hc => congrArg _ (tick_at_alarm hr hc)⟩

/-! ### Runs -/

theorem runsTo_zero (s : State) : RunsTo 0 s s := rfl

/-- A run of one step more takes that step first. -/
theorem run_succ_eq_next_iff (M : Host.Core) {k : Nat} {s u : M.State} :
    M.run (k + 1) s = .next u ↔ ∃ t, M.step s = .next t ∧ M.run k t = .next u := by
  rw [Host.Core.run]
  cases M.step s with
  | next t => simp
  | fault r => simp
  | refused r => simp

theorem runsTo_succ_iff {k : Nat} {s u : State} :
    RunsTo (k + 1) s u ↔ ∃ t, step s = .next t ∧ RunsTo k t u :=
  run_succ_eq_next_iff core

/-- A run goes on by the step of the state it has come to. -/
theorem RunsTo.snoc {k : Nat} {s t u : State} (h : RunsTo k s t) (ht : step t = .next u) :
    RunsTo (k + 1) s u := by
  induction k generalizing s with
  | zero =>
    obtain rfl : s = t := Host.Outcome.next.inj h
    exact runsTo_succ_iff.2 ⟨u, ht, runsTo_zero u⟩
  | succ k ih =>
    obtain ⟨r, hr, hrt⟩ := runsTo_succ_iff.1 h
    exact runsTo_succ_iff.2 ⟨r, hr, ih hrt⟩

/-- Where no handler is due at its end, a run goes on by the tick that is to come. -/
theorem RunsTo.tick {k : Nat} {s t u : State} {rest : List Input} (h : RunsTo k s t) (hq : Quiet t)
    (hin : t.inputs = .tick :: rest) (hu : Machine.tick { t with inputs := rest } = u) :
    RunsTo (k + 1) s u :=
  h.snoc ((step_input_of_quiet hq hin).trans (congrArg _ hu))

/-! ### Many ticks -/

theorem ticks_add (j k : Nat) : ticks (j + k) = ticks j ++ ticks k :=
  List.replicate_add j k Input.tick

theorem ticks_succ_append (k : Nat) (rest : List Input) :
    ticks (k + 1) ++ rest = ticks k ++ .tick :: rest := by
  rw [ticks_add, List.append_assoc]
  rfl

/-- One more after `k` more is `k + 1` more, on a clock or a counter. -/
theorem add_ofNat_add_one {w : Nat} (x : BitVec w) (k : Nat) :
    x + BitVec.ofNat w k + 1 = x + BitVec.ofNat w (k + 1) := by
  rw [BitVec.add_assoc, BitVec.ofNat_add]
  rfl

/-- Ticks on a stopped timer move the clock alone (R128). -/
theorem runsTo_ticks_of_stopped {s : State} (hr : s.dtRunning = false) (hq : Quiet s) (k : Nat) :
    ∀ rest : List Input, s.inputs = ticks k ++ rest →
      RunsTo k s { s with inputs := rest, now := s.now + BitVec.ofNat 64 k } := by
  induction k with
  | zero =>
    rintro rest rfl
    simpa using runsTo_zero s
  | succ k ih =>
    intro rest hin
    refine (ih _ (hin.trans (ticks_succ_append k rest))).tick hq rfl ((tick_of_stopped ?_).trans ?_)
    · exact hr
    · simp only [add_ofNat_add_one]

/-- Ticks that stay below the alarm move the clock and the count of a running timer alone (R128). -/
theorem runsTo_ticks_below_alarm {s : State} (hr : s.dtRunning = true) (hq : Quiet s) (k : Nat) :
    s.dtCount.toNat + k < 2000 → ∀ rest : List Input, s.inputs = ticks k ++ rest →
      RunsTo k s
        { s with
          inputs := rest, now := s.now + BitVec.ofNat 64 k
          dtCount := s.dtCount + BitVec.ofNat 32 k } := by
  induction k with
  | zero =>
    rintro - rest rfl
    simpa using runsTo_zero s
  | succ k ih =>
    intro hk rest hin
    have hne : s.dtCount + BitVec.ofNat 32 k + 1 ≠ 2000 := by bv_omega
    refine (ih (by omega) _ (hin.trans (ticks_succ_append k rest))).tick hq rfl
      ((tick_below_alarm ?_ ?_).trans ?_)
    · exact hr
    · exact hne
    · simp only [add_ofNat_add_one]

/-- Settles O21, by induction on the ticks: none of them starts the timer. -/
theorem stoppedTimerNeverExpires : Obligations.StoppedTimerNeverExpires :=
  fun _ k rest hr hq => runsTo_ticks_of_stopped hr hq k rest

/-- Settles O20: 1999 ticks stay below the alarm, and the tick after them reaches it. -/
theorem expiryComesExactly2000TicksAfterArm : Obligations.ExpiryComesExactly2000TicksAfterArm := by
  intro s rest hr h0 _ hq hin
  have below := runsTo_ticks_below_alarm hr hq
  simp only [h0, BitVec.ofNat_eq_ofNat, BitVec.toNat_ofNat, Nat.zero_mod, Nat.zero_add,
    BitVec.zero_add] at below
  constructor
  · intro k hk
    have hsplit : ticks 2000 = ticks k ++ ticks (2000 - k) := by
      rw [← ticks_add, Nat.add_sub_cancel' hk.le]
    exact below k hk _ (by rw [hin, hsplit, List.append_assoc])
  · have halarm : 1999#32 + 1 = 2000 := by decide
    refine (below 1999 (by decide) _ (hin.trans (ticks_succ_append 1999 rest))).tick hq rfl
      ((tick_at_alarm ?_ ?_).trans ?_)
    · exact hr
    · exact halarm
    · simp only [add_ofNat_add_one]
      rfl

end Sys2Proof.Machine

/-! ## The Duty-Cycle Controller's commands (O22 to O25) -/

namespace Sys2Proof.Machine

/-! ### The request and its read (R137, R138) -/

section
variable {s : State}

theorem request_of_stopped (t : Threshold) (hn : s.engState ≠ .running) :
    request t s = { s with activeThreshold := t } := if_pos hn

theorem request_of_active (hr : s.engState = .running) :
    request s.activeThreshold s = { s with pendingValid := false } := by
  simp [request, hr]

theorem request_of_other {t : Threshold} (hr : s.engState = .running)
    (ht : t ≠ s.activeThreshold) :
    request t s = { s with pendingThreshold := t, pendingValid := true } := by
  simp [request, hr, ht]

end

theorem exec_setDutyCycle_threshold (t : Threshold) (s : State) :
    exec (.setDutyCycle t.val) s = .next (respond .ok 0 (request t s)) := by
  simp only [exec, execSetDutyCycle, threshold?_natCast]

/-- Settles O24: outside [0, N] the range check answers, inside it the three cases of `request`. -/
theorem setDutyCycleFollowsItsRule : Obligations.SetDutyCycleFollowsItsRule := by
  refine ⟨fun a => decode_append (decide_eq_true (signedArgFits_sext24 a)) rfl (ofInt_sext24 a),
    fun s => ⟨fun t ht => exec_setDutyCycle_out_of_range ht s, fun v => ?_⟩⟩
  rw [exec_setDutyCycle_threshold]
  refine ⟨fun hn => ?_, fun hr hv => ?_, fun hr hv => ?_⟩
  · rw [request_of_stopped v hn]; rfl
  · rw [hv, request_of_active hr]; rfl
  · rw [request_of_other hr hv]; rfl

theorem percentage_le_hundred (t : Threshold) : percentage t ≤ 100 := by
  have ht : t.val ≤ 20 := threshold_le_N t
  unfold percentage Config.N
  omega

/-- The percentage and the threshold do not overlap in the word: the latter fits its eight bits. -/
theorem dutyData_toNat (t : Threshold) : (dutyData t).toNat = 256 * percentage t + t.val := by
  have ht : t.val ≤ 20 := threshold_le_N t
  have hp := percentage_le_hundred t
  have hshift : (percentage t <<< 8) % 2 ^ 32 = percentage t <<< 8 :=
    Nat.mod_eq_of_lt (by rw [Nat.shiftLeft_eq]; omega)
  have hval : t.val < 2 ^ 8 := by omega
  simp only [dutyData, BitVec.toNat_or, BitVec.toNat_shiftLeft, BitVec.toNat_ofNat]
  rw [Nat.mod_eq_of_lt (show percentage t < 2 ^ 32 by omega),
    Nat.mod_eq_of_lt (show t.val < 2 ^ 32 by omega), hshift,
    ← Nat.shiftLeft_add_eq_or_of_lt hval, Nat.shiftLeft_eq]
  omega

/-- Settles O25: the read answers `dutyData` of the active threshold. -/
theorem getDutyCycleReportsActive : Obligations.GetDutyCycleReportsActive :=
  ⟨by decide, fun s => ⟨dutyData s.activeThreshold, rfl, dutyData_toNat s.activeThreshold⟩⟩

/-! ### The draws to come -/

/-- Some zeros and then a one, as the draws to come. -/
theorem drawAt_of_first_failure {s : State} {zeros : Nat} {later : List Bool}
    (h : s.draws = List.replicate zeros false ++ true :: later) :
    (∀ k < zeros, drawAt s k = false) ∧ drawAt s zeros = true := by
  unfold drawAt
  rw [h]
  constructor
  · intro k hk
    rw [List.getD_append _ _ _ _ (by simpa using hk), List.getD_replicate _ hk]
  · rw [List.getD_append_right _ _ _ _ (by simp)]
    simp

/-- Draws are taken one at a time. -/
theorem drop_two {α : Type} (l : List α) : l.drop 2 = l.tail.tail := by
  rw [← List.drop_one, ← List.drop_one, List.drop_drop]

theorem drop_three {α : Type} (l : List α) : l.drop 3 = l.tail.tail.tail := by
  rw [← drop_two, ← List.drop_one, List.drop_drop]

theorem drop_four {α : Type} (l : List α) : l.drop 4 = l.tail.tail.tail.tail := by
  rw [← drop_three, ← List.drop_one, List.drop_drop]

/-! ### What a primitive leaves where its draw is 0

The state after each successful call of the set-up and of the swap, as a function of the state
before, with the one fact a later call needs of it: its draws are those to come after the one it
took. -/

/-- After `EC.configure(g)` (R100). -/
def counterConfigured (g : Arg) (s : State) : State :=
  { s.takeDraw with
    ecConfigured := true, ecGlitchNs := g, ecCount := 0
    wpFlipValid := false, wpFullValid := false
    evtFlipPending := false, evtFullPending := false }

/-- After `EC.add_wp(N)` (R101). -/
def fullRegistered (s : State) : State := { s.takeDraw with wpFullValid := true }

/-- After `EC.add_wp(c)` for a FLIP value (R101). -/
def flipRegistered (c : Count) (s : State) : State :=
  { s.takeDraw with wpFlipValid := true, wpFlipVal := c }

/-- After `EC.remove_wp` of the registered FLIP value (R102). -/
def flipRemoved (s : State) : State := { s.takeDraw with wpFlipValid := false }

@[simp] theorem drawAt_counterConfigured (g : Arg) (s : State) (k : Nat) :
    drawAt (counterConfigured g s) k = drawAt s (k + 1) := drawAt_takeDraw s k

@[simp] theorem drawAt_fullRegistered (s : State) (k : Nat) :
    drawAt (fullRegistered s) k = drawAt s (k + 1) := drawAt_takeDraw s k

@[simp] theorem drawAt_flipRegistered (c : Count) (s : State) (k : Nat) :
    drawAt (flipRegistered c s) k = drawAt s (k + 1) := drawAt_takeDraw s k

@[simp] theorem drawAt_flipRemoved (s : State) (k : Nat) :
    drawAt (flipRemoved s) k = drawAt s (k + 1) := drawAt_takeDraw s k

section
variable {s : State}

theorem ecAddWp_of_draw (v : Nat) (hd : drawAt s 0 = true) :
    ecAddWp v s = (.hwFail, s.takeDraw) := withWatchPoint_of_draw (drawAt_zero s ▸ hd)

theorem ecRemoveWp_of_draw (v : Nat) (hd : drawAt s 0 = true) :
    ecRemoveWp v s = (.hwFail, s.takeDraw) := withWatchPoint_of_draw (drawAt_zero s ▸ hd)

theorem ecAddWp_full_of_no_draw (hd : drawAt s 0 = false) (hc : s.ecConfigured = true)
    (hv : s.wpFullValid = false) : ecAddWp Config.N s = (.ok, fullRegistered s) :=
  (withWatchPoint_of_watchPoint? (drawAt_zero s ▸ hd) hc watchPoint?_N).trans
    (registerWp_full_of_free hv)

theorem ecAddWp_flip_of_no_draw {c : Count} (h0 : 0 < c.val) (hd : drawAt s 0 = false)
    (hc : s.ecConfigured = true) (hv : s.wpFlipValid = false) :
    ecAddWp c.val s = (.ok, flipRegistered c s) :=
  (withWatchPoint_of_watchPoint? (drawAt_zero s ▸ hd) hc (watchPoint?_flip c h0)).trans
    (registerWp_flip_of_free hv)

theorem ecRemoveWp_flip_of_no_draw (h0 : 0 < s.wpFlipVal.val) (hd : drawAt s 0 = false)
    (hc : s.ecConfigured = true) (hv : s.wpFlipValid = true) :
    ecRemoveWp s.wpFlipVal.val s = (.ok, flipRemoved s) :=
  (withWatchPoint_of_watchPoint? (drawAt_zero s ▸ hd) hc (watchPoint?_flip _ h0)).trans
    (unregisterWp_flip_of_same hv rfl)

end

/-! ### The set-up of `ENG_START` (R136), call by call -/

section
variable {s : State}

/-- The counter configured and the FULL point registered: what the first two calls leave. -/
def counterReady (s : State) : State :=
  fullRegistered (counterConfigured Config.glitchFilterNs s)

theorem drawAt_counterReady (s : State) (k : Nat) :
    drawAt (counterReady s) k = drawAt s (k + 2) := by
  simp [counterReady]

theorem engSetup_of_second_draw (h0 : drawAt s 0 = false) (h1 : drawAt s 1 = true) :
    engSetup s = (.hwFail, (counterConfigured Config.glitchFilterNs s).takeDraw) := by
  have hconf := ecConfigure_of_no_draw Config.glitchFilterNs (drawAt_zero s ▸ h0)
  have hadd : ecAddWp Config.N (counterConfigured Config.glitchFilterNs s) = _ :=
    ecAddWp_of_draw _ (by rw [drawAt_counterConfigured, h1])
  rw [engSetup, hconf, andThen_ok]
  change andThen (andThen (ecAddWp Config.N (counterConfigured Config.glitchFilterNs s)) _) _ = _
  rw [hadd]
  rfl

/-- Once the FULL point is registered, the two calls left are the FLIP point's and the timer's. -/
theorem engSetup_of_counterReady (h0 : drawAt s 0 = false) (h1 : drawAt s 1 = false) :
    engSetup s = andThen (addActiveFlip (counterReady s)) dtConfigure := by
  have hconf := ecConfigure_of_no_draw Config.glitchFilterNs (drawAt_zero s ▸ h0)
  have hadd : ecAddWp Config.N (counterConfigured Config.glitchFilterNs s) = _ :=
    ecAddWp_full_of_no_draw (by rw [drawAt_counterConfigured, h1]) rfl rfl
  rw [engSetup, hconf, andThen_ok]
  change andThen (andThen (ecAddWp Config.N (counterConfigured Config.glitchFilterNs s)) _) _ = _
  rw [hadd, andThen_ok]
  rfl

/-- A threshold of 0 or N has no FLIP point to add. -/
theorem engSetup_of_no_flip (hn : needsFlip s.activeThreshold = false) (h0 : drawAt s 0 = false)
    (h1 : drawAt s 1 = false) : engSetup s = dtConfigure (counterReady s) := by
  have hskip : addActiveFlip (counterReady s) = (.ok, counterReady s) :=
    if_neg (Bool.eq_false_iff.1 hn)
  rw [engSetup_of_counterReady h0 h1, hskip, andThen_ok]

section
variable {c : Count} (hc : c.val = s.activeThreshold.val) (hpos : 0 < c.val)
include hc hpos

theorem addActiveFlip_counterReady :
    addActiveFlip (counterReady s) = ecAddWp c.val (counterReady s) := by
  have hn : needsFlip s.activeThreshold = true := (needsFlip_iff _).2 (hc ▸ ⟨hpos, c.isLt⟩)
  rw [hc]
  exact if_pos hn

theorem engSetup_of_third_draw (h0 : drawAt s 0 = false) (h1 : drawAt s 1 = false)
    (h2 : drawAt s 2 = true) : engSetup s = (.hwFail, (counterReady s).takeDraw) := by
  have hadd : ecAddWp c.val (counterReady s) = _ :=
    ecAddWp_of_draw _ (by rw [drawAt_counterReady, h2])
  rw [engSetup_of_counterReady h0 h1, addActiveFlip_counterReady hc hpos, hadd]
  rfl

theorem engSetup_of_flip (h0 : drawAt s 0 = false) (h1 : drawAt s 1 = false)
    (h2 : drawAt s 2 = false) : engSetup s = dtConfigure (flipRegistered c (counterReady s)) := by
  have hadd : ecAddWp c.val (counterReady s) = _ :=
    ecAddWp_flip_of_no_draw hpos (by rw [drawAt_counterReady, h2]) rfl rfl
  rw [engSetup_of_counterReady h0 h1, addActiveFlip_counterReady hc hpos, hadd, andThen_ok]

end

/-! ### `ENG_START` (R136) -/

theorem exec_engStart_refused (hn : s.engState ≠ .idle) :
    exec .engStart s = .next (respond .invalidState 0 s) := congrArg _ (if_pos hn)

theorem exec_engStart_of_setup {x : State} (hidle : s.engState = .idle)
    (h : engSetup s = (.ok, x)) : exec .engStart s = .next (respond .ok 0 (engRun x)) := by
  simp [exec, execEngStart, hidle, h]

theorem exec_engStart_of_failure {x : State} (hidle : s.engState = .idle)
    (h : engSetup s = (.hwFail, x)) : exec .engStart s = .next (respond .hwFail 0 (engFail x)) := by
  simp [exec, execEngStart, hidle, h]

end

/-- Settles O22: every call of the set-up succeeds, the last being the timer's. -/
theorem engStartArmsTheEngine : Obligations.EngStartArmsTheEngine := by
  refine ⟨by decide, fun s hidle => ⟨fun hpos _ hz c hc => ?_, fun hend hz => ?_⟩⟩
  · have hsetup := engSetup_of_flip hc (hc ▸ hpos) (hz 0 (by decide)) (hz 1 (by decide))
      (hz 2 (by decide))
    have htimer : (flipRegistered c (counterReady s)).nextDraw = false := by
      rw [← drawAt_zero, drawAt_flipRegistered, drawAt_counterReady, hz 3 (by decide)]
    rw [dtConfigure_of_no_draw htimer] at hsetup
    rw [exec_engStart_of_setup hidle hsetup]
    rw [drop_four]
    rfl
  · have hn : needsFlip s.activeThreshold = false := by
      rw [Bool.eq_false_iff, Ne, needsFlip_iff]
      omega
    have hsetup := engSetup_of_no_flip hn (hz 0 (by decide)) (hz 1 (by decide))
    have htimer : (counterReady s).nextDraw = false := by
      rw [← drawAt_zero, drawAt_counterReady, hz 2 (by decide)]
    rw [dtConfigure_of_no_draw htimer] at hsetup
    rw [exec_engStart_of_setup hidle hsetup]
    rw [drop_three]
    rfl

/-- A first failing call, `zeros` calls having succeeded: what is left of `s` once both peripherals
are unconfigured again. -/
theorem engSetup_of_first_failure {s : State} {zeros : Nat}
    (hlt : zeros < if 0 < s.activeThreshold.val ∧ s.activeThreshold.val < 20 then 4 else 3)
    (hz : ∀ k < zeros, drawAt s k = false) (hone : drawAt s zeros = true) :
    ∃ x, engSetup s = (.hwFail, x) ∧
      (zeros = 3 → x.wpFlipVal.val = s.activeThreshold.val) ∧
      (zeros ≠ 3 → x.wpFlipVal = s.wpFlipVal) ∧
      engFail x =
        engFail
          { s with
            draws := s.draws.drop (zeros + 1), drawCount := s.drawCount + zeros + 1
            ecGlitchNs := if zeros = 0 then s.ecGlitchNs else Config.glitchFilterNs
            wpFlipVal := x.wpFlipVal } := by
  match zeros with
  | 0 =>
    refine ⟨_, engSetup_of_nextDraw (drawAt_zero s ▸ hone), nofun, fun _ => rfl, ?_⟩
    rw [List.drop_one]
    rfl
  | 1 =>
    refine ⟨_, engSetup_of_second_draw (hz 0 (by decide)) hone, nofun, fun _ => rfl, ?_⟩
    rw [drop_two]
    rfl
  | 2 =>
    have hthird : engSetup s = (.hwFail, (counterReady s).takeDraw) := by
      have h0 := hz 0 (by decide)
      have h1 := hz 1 (by decide)
      cases hn : needsFlip s.activeThreshold with
      | true =>
        obtain ⟨c, hc, hpos⟩ := exists_count_of_needsFlip hn
        exact engSetup_of_third_draw hc hpos h0 h1 hone
      | false =>
        have htimer : (counterReady s).nextDraw = true := by
          rw [← drawAt_zero, drawAt_counterReady, hone]
        rw [engSetup_of_no_flip hn h0 h1, dtConfigure_of_draw htimer]
    refine ⟨_, hthird, nofun, fun _ => rfl, ?_⟩
    rw [drop_three]
    rfl
  | 3 =>
    have hn : needsFlip s.activeThreshold = true := by
      rw [needsFlip_iff]
      by_contra hno
      rw [if_neg hno] at hlt
      exact lt_irrefl 3 hlt
    obtain ⟨c, hc, hpos⟩ := exists_count_of_needsFlip hn
    have htimer : (flipRegistered c (counterReady s)).nextDraw = true := by
      rw [← drawAt_zero, drawAt_flipRegistered, drawAt_counterReady, hone]
    have hsetup := engSetup_of_flip hc hpos (hz 0 (by decide)) (hz 1 (by decide))
      (hz 2 (by decide))
    rw [dtConfigure_of_draw htimer] at hsetup
    refine ⟨_, hsetup, fun _ => hc, fun hne => absurd rfl hne, ?_⟩
    rw [drop_four]
    rfl
  | zeros + 4 =>
    split at hlt <;> omega

/-- Settles O23: refused outside IDLE; in IDLE the first draw of 1 fails its call, which is the
first call to fail. -/
theorem engStartFailureIsFatal : Obligations.EngStartFailureIsFatal := by
  refine fun s => ⟨exec_engStart_refused, fun hidle zeros later hdraws hlt => ?_⟩
  obtain ⟨hz, hone⟩ := drawAt_of_first_failure hdraws
  obtain ⟨x, hsetup, hadded, hkept, hx⟩ := engSetup_of_first_failure hlt hz hone
  have hlater : s.draws.drop (zeros + 1) = later := by
    rw [hdraws, List.drop_append, List.length_replicate, Nat.add_sub_cancel_left]
    simp
  refine ⟨_, exec_engStart_of_failure hidle hsetup, hadded, hkept, ?_⟩
  rw [hlater] at hx
  rw [hx]
  rfl

end Sys2Proof.Machine

/-! ## The application at the cycle boundary (O26, O27) -/

namespace Sys2Proof.Machine

/-! ### The FULL handler (R158): the application, within what it does in every cycle -/

/-- The state in which the FULL handler entered from `s` looks for a pending request: the latch
cleared, the trigger and the cycle counted, the time kept, the count back at 0 (R156, R158). -/
def atBoundary (s : State) : State :=
  { recordCycle (countTrigger { s with evtFullPending := false }) with ecCount := 0 }

/-- `s` with the fields that an application may write as they are in `y` (R139 to R141). -/
def withApplication (y s : State) : State :=
  { s with
    activeThreshold := y.activeThreshold, pendingValid := y.pendingValid
    lastApplyResult := y.lastApplyResult, applyEventPending := y.applyEventPending
    wpFlipValid := y.wpFlipValid, wpFlipVal := y.wpFlipVal
    faultFlipUnrestored := y.faultFlipUnrestored
    draws := y.draws, drawCount := y.drawCount }

theorem dcApplyPending_eq_withApplication (s : State) :
    dcApplyPending s = withApplication (dcApplyPending s) s := by
  rcases dcApplyPending_cases s with e | e | ⟨-, r, -, -, e⟩ <;> rw [e] <;> rfl

theorem boundaryLevel_eq (s : State) :
    boundaryLevel s = if s.activeThreshold.val = 0 then .low else .high := by
  simp only [boundaryLevel, Fin.ext_iff]
  rfl

theorem schedule_of_configured (l : Level) {s : State} (hc : s.dtConfigured = true) :
    schedule l s =
      { s with
        faultArmSupersede := s.faultArmSupersede || s.pol.isSome
        pol := some l, dtCount := 0, dtRunning := true, dtEvtPending := false } := by
  rcases schedule_cases l s with ⟨-, e⟩ | ⟨hno, -⟩
  · exact e
  · exact absurd (hc.symm.trans hno) (by decide)

/-- The arm at the end of the FULL branch completes what the statements call `afterFull`. -/
theorem scheduleBoundary_withApplication {s : State} (hdt : s.dtConfigured = true) (y : State) :
    scheduleBoundary (withApplication y (atBoundary s)) =
      withApplication y (afterFull y.activeThreshold s) := by
  have hc : (withApplication y (atBoundary s)).dtConfigured = true := hdt
  rw [scheduleBoundary, schedule_of_configured _ hc, boundaryLevel_eq]
  rfl

theorem wpService_full {s : State} (hec : s.ecConfigured = true) (hdt : s.dtConfigured = true)
    (hflip : s.evtFlipPending = false) :
    wpService s =
      withApplication (dcApplyPending (atBoundary s))
        (afterFull (dcApplyPending (atBoundary s)).activeThreshold s) := by
  have henter : enterWatchPoint s = (Config.N, { s with evtFullPending := false }) :=
    if_neg (Bool.eq_false_iff.1 hflip)
  have hclear : (ecClear (recordCycle (countTrigger { s with evtFullPending := false }))).2 =
      atBoundary s :=
    congrArg Prod.snd (ecClear_of_configured
      (s := recordCycle (countTrigger { s with evtFullPending := false })) hec)
  have hservice : wpService s = scheduleBoundary (dcApplyPending (atBoundary s)) := by
    rw [wpService, henter, ← hclear]
    rfl
  rw [hservice, dcApplyPending_eq_withApplication, scheduleBoundary_withApplication hdt,
    ← dcApplyPending_eq_withApplication]

/-! ### The swap (R140, R141), an equation per draw -/

section
variable {s : State} {p : Threshold} {c old : Count} {removed : Bool}

theorem dcSwap_of_no_flip (hv : s.wpFlipValid = false) :
    dcSwap p s = dcAddHalf p false s.wpFlipVal s := by
  simp [dcSwap, hv]

section
variable (hn : needsFlip s.activeThreshold = true) (hv : s.wpFlipValid = true)
include hn hv

theorem dcSwap_of_remove_failure (h0 : drawAt s 0 = true) :
    dcSwap p s = (.failRemove, s.takeDraw) := by
  simp [dcSwap, hn, hv, ecRemoveWp_of_draw _ h0]

theorem dcSwap_of_removal (hpos : 0 < s.wpFlipVal.val) (hc : s.ecConfigured = true)
    (h0 : drawAt s 0 = false) :
    dcSwap p s = dcAddHalf p true s.wpFlipVal (flipRemoved s) := by
  simp [dcSwap, hn, hv, ecRemoveWp_flip_of_no_draw hpos h0 hc hv]

end

theorem dcAddHalf_of_no_flip (hp : needsFlip p = false) :
    dcAddHalf p removed old s = (.ok, s) := by
  simp [dcAddHalf, hp]

theorem dcAddHalf_of_failure (hp : needsFlip p = true) (h0 : drawAt s 0 = true) :
    dcAddHalf p removed old s = dcRollback removed old s.takeDraw := by
  simp [dcAddHalf, hp, ecAddWp_of_draw _ h0]

theorem dcAddHalf_of_addition (hc : c.val = p.val) (hpos : 0 < c.val)
    (hconf : s.ecConfigured = true) (hv : s.wpFlipValid = false) (h0 : drawAt s 0 = false) :
    dcAddHalf p removed old s = (.ok, flipRegistered c s) := by
  have hp : needsFlip p = true := (needsFlip_iff p).2 (hc ▸ ⟨hpos, c.isLt⟩)
  simp [dcAddHalf, hp, ← hc, ecAddWp_flip_of_no_draw hpos h0 hconf hv]

theorem dcRollback_of_restore (hpos : 0 < old.val) (hconf : s.ecConfigured = true)
    (hv : s.wpFlipValid = false) (h0 : drawAt s 0 = false) :
    dcRollback true old s = (.failRolledBack, flipRegistered old s) := by
  simp [dcRollback, ecAddWp_flip_of_no_draw hpos h0 hconf hv]

theorem dcRollback_of_restore_failure (h0 : drawAt s 0 = true) :
    dcRollback true old s = (.failUnrestored, { s.takeDraw with faultFlipUnrestored := true }) := by
  simp [dcRollback, ecAddWp_of_draw _ h0]

end

/-! ### The handler with a request pending -/

/-- What the two statements about the application use of the state in which the FULL handler runs: a
request is pending, no FLIP event goes before, and the FLIP slot holds a point only for an active
threshold that needs one. -/
structure SwapReady (s : State) : Prop where
  ecConfigured : s.ecConfigured = true
  dtConfigured : s.dtConfigured = true
  noFlipEvent : s.evtFlipPending = false
  pending : s.pendingValid = true
  differs : s.pendingThreshold ≠ s.activeThreshold
  flipPos : s.wpFlipValid = true → 0 < s.wpFlipVal.val
  flipNeeded : s.wpFlipValid = true → needsFlip s.activeThreshold = true

theorem swapReady_of_invariants {s : State} (hi : Invariants s) (hf : FlipFollowsActive s)
    (hflip : s.evtFlipPending = false) (hp : s.pendingValid = true) : SwapReady s := by
  obtain ⟨hrun, hne⟩ := hi.pendingDiffers hp
  obtain ⟨hec, hdt, -⟩ := hi.runningConfigured hrun
  exact ⟨hec, hdt, hflip, hp, hne, fun hv => (hi.flipInRange hv).1,
    fun hv => (needsFlip_iff _).2 (hf hrun hv ▸ hi.flipInRange hv)⟩

theorem swapReady_atBoundary {s : State} (h : SwapReady s) : SwapReady (atBoundary s) := { h with }

theorem wpService_of_swap {s : State} (h : SwapReady s) {r : ApplyResult × State}
    (hr : dcSwap s.pendingThreshold (atBoundary s) = r) :
    wpService s =
      withApplication (finishApply s.pendingThreshold r)
        (afterFull (finishApply s.pendingThreshold r).activeThreshold s) := by
  have happly : dcApplyPending (atBoundary s) = finishApply s.pendingThreshold r := by
    have hp : (atBoundary s).pendingValid = true := h.pending
    have hne : (atBoundary s).pendingThreshold ≠ (atBoundary s).activeThreshold := h.differs
    rw [← hr, dcApplyPending, hp, if_neg (by decide), if_neg hne]
    rfl
  rw [wpService_full h.ecConfigured h.dtConfigured h.noFlipEvent, happly]

/-! #### No draw fails -/

theorem swapDraws_eq (s : State) :
    swapDraws s = s.wpFlipValid.toNat + (needsFlip s.pendingThreshold).toNat := by
  simp only [swapDraws, ← needsFlip_iff]
  cases s.wpFlipValid <;> cases needsFlip s.pendingThreshold <;> rfl

/-- With every draw 0 the slot is emptied if it held a point, and then filled if the new threshold
needs one. -/
theorem dcSwap_of_no_failure {s : State} (h : SwapReady s)
    (hz : ∀ k < swapDraws s, drawAt s k = false) :
    ∃ v : Count,
      (needsFlip s.pendingThreshold = true → v.val = s.pendingThreshold.val) ∧
      (needsFlip s.pendingThreshold = false → v = s.wpFlipVal) ∧
      dcSwap s.pendingThreshold s =
        (.ok,
          { s with
            wpFlipValid := needsFlip s.pendingThreshold, wpFlipVal := v
            draws := s.draws.drop (swapDraws s), drawCount := s.drawCount + swapDraws s }) := by
  rw [swapDraws_eq] at hz ⊢
  cases hv : s.wpFlipValid with
  | true =>
    rw [hv] at hz
    have hremove := dcSwap_of_removal (p := s.pendingThreshold) (h.flipNeeded hv) hv (h.flipPos hv)
      h.ecConfigured (hz 0 (by simp))
    cases hn : needsFlip s.pendingThreshold with
    | true =>
      obtain ⟨c, hc, hpos⟩ := exists_count_of_needsFlip hn
      have h1 : drawAt (flipRemoved s) 0 = false := by
        rw [drawAt_flipRemoved, hz 1 (by simp [hn])]
      refine ⟨c, fun _ => hc, nofun, ?_⟩
      rw [hremove, dcAddHalf_of_addition (s := flipRemoved s) hc hpos h.ecConfigured rfl h1]
      simp [flipRegistered, flipRemoved, State.takeDraw, drop_two]
    | false =>
      refine ⟨s.wpFlipVal, nofun, fun _ => rfl, ?_⟩
      rw [hremove, dcAddHalf_of_no_flip hn]
      simp [flipRemoved, State.takeDraw]
  | false =>
    rw [hv] at hz
    cases hn : needsFlip s.pendingThreshold with
    | true =>
      obtain ⟨c, hc, hpos⟩ := exists_count_of_needsFlip hn
      refine ⟨c, fun _ => hc, nofun, ?_⟩
      rw [dcSwap_of_no_flip hv,
        dcAddHalf_of_addition hc hpos h.ecConfigured hv (hz 0 (by simp [hn]))]
      simp [flipRegistered, State.takeDraw]
    | false =>
      refine ⟨s.wpFlipVal, nofun, fun _ => rfl, ?_⟩
      rw [dcSwap_of_no_flip hv, dcAddHalf_of_no_flip hn]
      simp only [Bool.toNat_false, Nat.add_zero, List.drop_zero]
      rw [← hv]

/-- The schedule's own list is all that `spendDeferral` can change. -/
theorem exists_spendDeferral_eq (s : State) : ∃ d, spendDeferral s = { s with deferrals := d } := by
  unfold spendDeferral
  split
  · exact ⟨_, rfl⟩
  · exact ⟨s.deferrals, rfl⟩

/-- The handler's step, with the state the schedule leaves spelled out. -/
theorem exists_step_wpService_eq {s : State} (hl : nextLabel? s = some .wpService) :
    ∃ d, spendDeferral s = { s with deferrals := d } ∧
      step s = .next (wpService { s with deferrals := d }) := by
  obtain ⟨d, hd⟩ := exists_spendDeferral_eq s
  exact ⟨d, hd, by rw [step_of_nextLabel hl, ← hd]; rfl⟩

/-- Settles O26: the handler is the swap that does not fail (`dcSwap_of_no_failure`), within what it
does in every cycle (`wpService_of_swap`). -/
theorem boundaryAppliesTheRequest : Obligations.BoundaryAppliesTheRequest := by
  intro s hi hf hl hflip hp hz
  obtain ⟨d, hspend, hstep⟩ := exists_step_wpService_eq hl
  have hready : SwapReady { s with deferrals := d } :=
    { swapReady_of_invariants hi hf hflip hp with }
  obtain ⟨v, hin, hout, hswap⟩ := dcSwap_of_no_failure (swapReady_atBoundary hready) hz
  refine ⟨v, fun h => hin ((needsFlip_iff _).2 h), fun h => hout ?_, ?_⟩
  · rw [Bool.eq_false_iff, Ne, needsFlip_iff]
    change ¬ (0 < s.pendingThreshold.val ∧ s.pendingThreshold.val < 20)
    omega
  · rw [hstep, hspend, wpService_of_swap hready hswap]
    rfl

/-! #### A draw fails -/

/-- The draws `bits` make the application fail with the outcome `r` (R140, R141): the removal, for
every new threshold; or the addition of one strictly inside (0, N), with a restore that succeeds,
with one that fails, and with nothing to restore. -/
def SwapFails (s : State) (bits : List Bool) (r : ApplyResult) : Prop :=
  (s.wpFlipValid = true ∧ bits = [true] ∧ r = .failRemove) ∨
  (0 < s.pendingThreshold.val ∧ s.pendingThreshold.val < 20 ∧
    ((s.wpFlipValid = true ∧ bits = [false, true, false] ∧ r = .failRolledBack) ∨
     (s.wpFlipValid = true ∧ bits = [false, true, true] ∧ r = .failUnrestored) ∨
     (s.wpFlipValid = false ∧ bits = [true] ∧ r = .failRolledBack)))

theorem SwapFails.ne_ok {s : State} {bits : List Bool} {r : ApplyResult} (h : SwapFails s bits r) :
    r ≠ .ok := by
  rcases h with ⟨-, -, rfl⟩ | ⟨-, -, ⟨-, -, rfl⟩ | ⟨-, -, rfl⟩ | ⟨-, -, rfl⟩⟩ <;> decide

/-- The addition after a removal fails, so the old point is to be put back. -/
theorem dcSwap_of_addition_failure {s : State} (h : SwapReady s) (hv : s.wpFlipValid = true)
    (hn : needsFlip s.pendingThreshold = true) (h0 : drawAt s 0 = false) (h1 : drawAt s 1 = true) :
    dcSwap s.pendingThreshold s = dcRollback true s.wpFlipVal (flipRemoved s).takeDraw := by
  rw [dcSwap_of_removal (h.flipNeeded hv) hv (h.flipPos hv) h.ecConfigured h0,
    dcAddHalf_of_failure hn (by rw [drawAt_flipRemoved, h1])]

theorem dcSwap_of_failure {s : State} (h : SwapReady s) {bits : List Bool} {r : ApplyResult}
    (hfails : SwapFails s bits r)
    (hbits : ∀ (k : Nat) (hk : k < bits.length), drawAt s k = bits[k]) :
    dcSwap s.pendingThreshold s =
      (r,
        { s with
          wpFlipValid := s.wpFlipValid && decide (r ≠ .failUnrestored)
          faultFlipUnrestored := s.faultFlipUnrestored || decide (r = .failUnrestored)
          draws := s.draws.drop bits.length, drawCount := s.drawCount + bits.length }) := by
  rcases hfails with ⟨hv, rfl, rfl⟩ | ⟨hpos, hlt, hfails⟩
  · rw [dcSwap_of_remove_failure (h.flipNeeded hv) hv (hbits 0 (by decide))]
    simp [State.takeDraw]
  have hn : needsFlip s.pendingThreshold = true := (needsFlip_iff _).2 ⟨hpos, hlt⟩
  rcases hfails with ⟨hv, rfl, rfl⟩ | ⟨hv, rfl, rfl⟩ | ⟨hv, rfl, rfl⟩
  · have h2 : drawAt (flipRemoved s).takeDraw 0 = false := by
      rw [drawAt_takeDraw, drawAt_flipRemoved, hbits 2 (by decide)]; rfl
    rw [dcSwap_of_addition_failure h hv hn (hbits 0 (by decide)) (hbits 1 (by decide)),
      dcRollback_of_restore (s := (flipRemoved s).takeDraw) (h.flipPos hv) h.ecConfigured rfl h2]
    simp [flipRegistered, flipRemoved, State.takeDraw, drop_three, hv]
  · have h2 : drawAt (flipRemoved s).takeDraw 0 = true := by
      rw [drawAt_takeDraw, drawAt_flipRemoved, hbits 2 (by decide)]; rfl
    rw [dcSwap_of_addition_failure h hv hn (hbits 0 (by decide)) (hbits 1 (by decide)),
      dcRollback_of_restore_failure h2]
    simp [flipRemoved, State.takeDraw, drop_three]
  · rw [dcSwap_of_no_flip hv, dcAddHalf_of_failure hn (hbits 0 (by decide))]
    simp [dcRollback, State.takeDraw]

/-- Settles O27: the handler is the swap that fails (`dcSwap_of_failure`), which commits nothing,
within what it does in every cycle (`wpService_of_swap`). -/
theorem failedSwapKeepsTheSetting : Obligations.FailedSwapKeepsTheSetting := by
  intro s hi hf hl hflip hp bits r hcase hbits
  obtain ⟨d, hspend, hstep⟩ := exists_step_wpService_eq hl
  have hready : SwapReady { s with deferrals := d } :=
    { swapReady_of_invariants hi hf hflip hp with }
  have hfails : SwapFails (atBoundary { s with deferrals := d }) bits r := hcase
  have hswap := dcSwap_of_failure (swapReady_atBoundary hready) hfails hbits
  rw [hstep, hspend, wpService_of_swap hready hswap]
  simp only [finishApply, if_neg hfails.ne_ok]
  rfl

end Sys2Proof.Machine

/-! ## A request is in force once its cycle is over (O28) -/

namespace Sys2Proof.Machine

/-! ### The reference schedule: an environment step and the handler it makes due (R9) -/

theorem spendDeferral_of_eager {s : State} (he : Eager s) : spendDeferral s = s := by
  unfold Eager at he
  unfold spendDeferral
  split
  · rw [he, List.tail_nil, ← he]
  · rfl

theorem handlerLags_of_eager {s : State} (he : Eager s) : handlerLags s = false := by
  unfold Eager at he
  rw [handlerLags, he]
  rfl

/-- The state after the handler that is due, if one is, has run. -/
def handleDue (s : State) : State :=
  if dtEnabled s then dtService s else if wpEnabled s then wpService s else s

theorem step_of_due {s : State} (he : Eager s) (hh : handlerEnabled s = true) :
    step s = .next (handleDue s) := by
  have hlags := handlerLags_of_eager he
  unfold handlerEnabled at hh
  unfold handleDue
  by_cases hd : dtEnabled s = true
  · have hl : nextLabel? s = some .dtService := by simp [nextLabel?, dueHandler?, hd, hlags]
    rw [if_pos hd, step_of_nextLabel hl, spendDeferral_of_eager he]
    rfl
  · have hw : wpEnabled s = true := by simpa [hd] using hh
    have hl : nextLabel? s = some .wpService := by simp [nextLabel?, dueHandler?, hd, hw, hlags]
    rw [if_neg hd, if_pos hw, step_of_nextLabel hl, spendDeferral_of_eager he]
    rfl

theorem handleDue_of_quiet {s : State} (hq : Quiet s) : handleDue s = s := by
  unfold Quiet handlerEnabled at hq
  obtain ⟨hd, hw⟩ := (Bool.or_eq_false_iff).1 hq
  simp [handleDue, hd, hw]

/-- From a quiet state, the environment's next step and the handler it makes due, if any, lead to a
quiet state again (O57, O58). -/
theorem exists_runsTo_handleDue {s x : State} {e : Input} {rest : List Input} (hq : Quiet s)
    (hin : s.inputs = e :: rest)
    (hfire : fire (.input e) { s with inputs := rest } = .next x) (hx : Eager x)
    (hr : x.engState = .running) :
    ∃ k, RunsTo k s (handleDue x) ∧ Quiet (handleDue x) ∧ Eager (handleDue x) ∧
      (handleDue x).inputs = x.inputs := by
  have hstep : step s = .next x := (step_input_of_quiet hq hin).trans hfire
  have hfirst : RunsTo 1 s x := (runsTo_zero s).snoc hstep
  cases hh : handlerEnabled x with
  | false =>
    rw [handleDue_of_quiet hh]
    exact ⟨1, hfirst, hh, hx, rfl⟩
  | true =>
    have hdue := step_of_due hx hh
    obtain ⟨hone, -⟩ := atMostOneHandlerDue s x hq hstep hr
    obtain ⟨hquiet, hinputs, -⟩ := dueHandlerLeavesQuiet x _ hx hone hh hdue
    exact ⟨2, hfirst.snoc hdue, hquiet, (due_step hx hh hdue).1, hinputs⟩

theorem handleDue_invariants {s : State} (h : Invariants s) : Invariants (handleDue s) := by
  unfold handleDue
  split
  · exact dtService_invariants h
  split
  · exact wpService_invariants h
  · exact h

theorem handleDue_flipFollowsActive {s : State} (hi : Invariants s) (h : FlipFollowsActive s) :
    FlipFollowsActive (handleDue s) := by
  unfold handleDue
  split
  · exact dtService_flipFollowsActive h
  split
  · exact wpService_flipFollowsActive hi h
  · exact h

/-! ### What a step inside a cycle leaves of the setting -/

/-- The setting, the request for another, the draws that its application will take, the count, the
engine's state and the response are those of `s`. -/
structure KeepsSetting (s u : State) : Prop where
  activeThreshold : u.activeThreshold = s.activeThreshold
  pendingValid : u.pendingValid = s.pendingValid
  pendingThreshold : u.pendingThreshold = s.pendingThreshold
  draws : u.draws = s.draws
  ecCount : u.ecCount = s.ecCount
  engState : u.engState = s.engState
  respStatus : u.respStatus = s.respStatus

theorem KeepsSetting.refl (s : State) : KeepsSetting s s := ⟨rfl, rfl, rfl, rfl, rfl, rfl, rfl⟩

theorem KeepsSetting.trans {s t u : State} (h : KeepsSetting s t) (h' : KeepsSetting t u) :
    KeepsSetting s u where
  activeThreshold := h'.activeThreshold.trans h.activeThreshold
  pendingValid := h'.pendingValid.trans h.pendingValid
  pendingThreshold := h'.pendingThreshold.trans h.pendingThreshold
  draws := h'.draws.trans h.draws
  ecCount := h'.ecCount.trans h.ecCount
  engState := h'.engState.trans h.engState
  respStatus := h'.respStatus.trans h.respStatus

theorem tick_keepsSetting (s : State) : KeepsSetting s (tick s) := by
  rcases tick_cases s with ⟨-, e⟩ | ⟨-, -, e⟩ | ⟨-, -, e⟩ <;> rw [e] <;>
    exact ⟨rfl, rfl, rfl, rfl, rfl, rfl, rfl⟩

/-- Below the top an edge moves the count, and beyond it only the FLIP latch (R110). -/
theorem reachCount_keepsSetting (c : Count) (s : State) :
    KeepsSetting { s with ecCount := c } (reachCount c s) := by
  unfold reachCount
  split <;> exact ⟨rfl, rfl, rfl, rfl, rfl, rfl, rfl⟩

theorem schedule_keepsSetting (l : Level) (s : State) : KeepsSetting s (schedule l s) := by
  rcases schedule_cases l s with ⟨-, e⟩ | ⟨-, e⟩ <;> rw [e] <;>
    exact ⟨rfl, rfl, rfl, rfl, rfl, rfl, rfl⟩

theorem dtService_keepsSetting (s : State) : KeepsSetting s (dtService s) := by
  have hstop : KeepsSetting s (dtStop (enterExpiry s)).2 := by
    rcases dtStop_cases (enterExpiry s) with ⟨-, e⟩ | ⟨-, e⟩ <;> rw [e] <;>
      exact ⟨rfl, rfl, rfl, rfl, rfl, rfl, rfl⟩
  refine hstop.trans ?_
  unfold dtService
  rcases writePin_cases (dtStop (enterExpiry s)).2 with ⟨-, e⟩ | ⟨_, -, e⟩ <;> rw [e] <;>
    exact ⟨rfl, rfl, rfl, rfl, rfl, rfl, rfl⟩

/-- The service of a FLIP event arms the timer or does nothing (R157, R159). -/
theorem wpService_flip_keepsSetting {s : State} (hflip : s.evtFlipPending = true) :
    KeepsSetting s (wpService s) := by
  have henter : enterWatchPoint s = (s.evtFlipVal.val, { s with evtFlipPending := false }) :=
    if_pos hflip
  have hcount : KeepsSetting s (countTrigger { s with evtFlipPending := false }) :=
    ⟨rfl, rfl, rfl, rfl, rfl, rfl, rfl⟩
  rw [wpService, henter]
  refine hcount.trans ?_
  rcases wpBranch_cases s.evtFlipVal.val (countTrigger { s with evtFlipPending := false }) with
    ⟨-, -, -, e⟩ | ⟨hN, -⟩ | ⟨-, -, e⟩
  · rw [e]
    exact schedule_keepsSetting .low _
  · exact absurd hN (Nat.ne_of_lt s.evtFlipVal.isLt)
  · rw [e]
    exact .refl _

/-- With no FULL event latched no handler touches the setting. -/
theorem handleDue_keepsSetting {s : State} (hfull : s.evtFullPending = false) :
    KeepsSetting s (handleDue s) := by
  unfold handleDue
  split
  · exact dtService_keepsSetting s
  split
  · next hw => exact wpService_flip_keepsSetting (by simp_all [wpEnabled])
  · exact .refl s

theorem tick_frame (s : State) :
    (tick s).inputs = s.inputs ∧ (tick s).evtFullPending = s.evtFullPending := by
  rcases tick_cases s with ⟨-, e⟩ | ⟨-, -, e⟩ | ⟨-, -, e⟩ <;> rw [e] <;> exact ⟨rfl, rfl⟩

theorem reachCount_frame (c : Count) (s : State) :
    (reachCount c s).inputs = s.inputs ∧ (reachCount c s).evtFullPending = s.evtFullPending := by
  unfold reachCount
  split <;> exact ⟨rfl, rfl⟩

/-! ### The request on its way -/

/-- `t` is asked for, or is the setting already with no other asked for (R137). -/
def Requested (t : Threshold) (s : State) : Prop :=
  (s.pendingValid = true ∧ s.pendingThreshold = t) ∨
  (s.pendingValid = false ∧ s.activeThreshold = t)

/-- `t` is the setting, with nothing pending, at the start of a cycle. -/
def InForce (t : Threshold) (s : State) : Prop :=
  s.ecCount = 0 ∧ s.activeThreshold = t ∧ s.pendingValid = false

/-- With `edges` rising edges to come: the last of them is the boundary, and the draws that its
application can take are 0; or the boundary is past. -/
def SettingAhead (t : Threshold) (edges : Nat) (s : State) : Prop :=
  (edges = 20 - s.ecCount.val ∧ Requested t s ∧ ∃ later, s.draws = false :: false :: later) ∨
  (edges = 0 ∧ InForce t s)

/-- A quiet state of a running engine on the way to its boundary. -/
structure TowardsBoundary (t : Threshold) (edges : Nat) (s : State) : Prop where
  invariants : Invariants s
  flipFollows : FlipFollowsActive s
  quiet : Quiet s
  eager : Eager s
  running : s.engState = .running
  answered : s.respStatus = .ok
  setting : SettingAhead t edges s

theorem request_requested (t : Threshold) {s : State} (hr : s.engState = .running) :
    Requested t (request t s) := by
  rcases request_cases t s with ⟨hn, -⟩ | ⟨-, rfl, e⟩ | ⟨-, -, e⟩
  · exact absurd hr hn
  · rw [e]
    exact .inr ⟨rfl, rfl⟩
  · rw [e]
    exact .inl ⟨rfl, rfl⟩

theorem SettingAhead.of_keepsSetting {t : Threshold} {edges : Nat} {s u : State}
    (h : SettingAhead t edges s) (hk : KeepsSetting s u) : SettingAhead t edges u := by
  unfold SettingAhead Requested InForce at *
  rwa [hk.activeThreshold, hk.pendingValid, hk.pendingThreshold, hk.draws, hk.ecCount]

theorem drawAt_of_two_zeros {s : State} {later : List Bool}
    (h : s.draws = false :: false :: later) : ∀ k < 2, drawAt s k = false := by
  intro k hk
  unfold drawAt
  rw [h]
  match k with
  | 0 | 1 => rfl

theorem swapDraws_le_two (s : State) : swapDraws s ≤ 2 := by
  have hremove := Bool.toNat_le s.wpFlipValid
  have hadd := Bool.toNat_le (needsFlip s.pendingThreshold)
  rw [swapDraws_eq]
  omega

/-- The FULL handler puts the request in force, its draws being 0 (O26), and is otherwise no matter
of the engine's state or the response. -/
theorem wpService_inForce {t : Threshold} {s : State} {later : List Bool} (hi : Invariants s)
    (hf : FlipFollowsActive s) (hr : s.engState = .running) (hflip : s.evtFlipPending = false)
    (ht : Requested t s) (hdraws : s.draws = false :: false :: later) :
    InForce t (wpService s) ∧ (wpService s).engState = s.engState ∧
      (wpService s).respStatus = s.respStatus := by
  rcases ht with ⟨hp, rfl⟩ | ⟨hp, rfl⟩
  · have hready := swapReady_of_invariants hi hf hflip hp
    have hz : ∀ k < swapDraws (atBoundary s), drawAt (atBoundary s) k = false := fun k hk =>
      drawAt_of_two_zeros hdraws k (hk.trans_le (swapDraws_le_two _))
    obtain ⟨_, -, -, hswap⟩ := dcSwap_of_no_failure (swapReady_atBoundary hready) hz
    rw [wpService_of_swap hready hswap]
    exact ⟨⟨rfl, rfl, rfl⟩, rfl, rfl⟩
  · obtain ⟨hec, hdt, -⟩ := hi.runningConfigured hr
    have hnone : dcApplyPending (atBoundary s) = atBoundary s := if_pos hp
    rw [wpService_full hec hdt hflip, hnone]
    exact ⟨⟨rfl, rfl, hp⟩, rfl, rfl⟩

/-! ### One step of the environment on the way -/

/-- The handler that `x` makes due, if any, leaves the engine running, the response as it is, and
the setting where it should be. -/
structure Landing (t : Threshold) (edges : Nat) (x : State) : Prop where
  running : x.engState = .running
  handled : (handleDue x).engState = .running
  answered : (handleDue x).respStatus = .ok
  setting : SettingAhead t edges (handleDue x)

section
variable {t : Threshold} {edges : Nat} {s : State}

theorem TowardsBoundary.no_latch (h : TowardsBoundary t edges s) :
    s.dtEvtPending = false ∧ s.evtFlipPending = false ∧ s.evtFullPending = false :=
  (handlerEnabled_eq_false_iff s).1 h.quiet h.running

theorem TowardsBoundary.of_inputs (h : TowardsBoundary t edges s) (rest : List Input) :
    TowardsBoundary t edges { s with inputs := rest } :=
  { h with invariants := { h.invariants with } }

/-- A step that latches no FULL event, and leaves the setting as it is in `y`. -/
theorem landing_of_keepsSetting {x y : State} (hr : y.engState = .running)
    (hanswer : y.respStatus = .ok) (hset : SettingAhead t edges y) (hk : KeepsSetting y x)
    (hfull : x.evtFullPending = false) : Landing t edges x := by
  have hdue := hk.trans (handleDue_keepsSetting hfull)
  exact ⟨hk.engState.trans hr, hdue.engState.trans hr, hdue.respStatus.trans hanswer,
    hset.of_keepsSetting hdue⟩

theorem TowardsBoundary.landing_fall (h : TowardsBoundary t edges s) : Landing t edges s := by
  obtain ⟨-, -, hfull⟩ := h.no_latch
  exact landing_of_keepsSetting h.running h.answered h.setting (.refl s) hfull

theorem TowardsBoundary.landing_tick (h : TowardsBoundary t edges s) :
    Landing t edges (tick s) := by
  obtain ⟨-, -, hfull⟩ := h.no_latch
  obtain ⟨-, hevt⟩ := tick_frame s
  exact landing_of_keepsSetting h.running h.answered h.setting (tick_keepsSetting s)
    (hevt.trans hfull)

/-- Below the top an edge counts; the edge at the top is the boundary, and its handler puts the
request in force. -/
theorem TowardsBoundary.landing_rise (h : TowardsBoundary t (edges + 1) s) :
    Landing t edges (rise s) := by
  obtain ⟨hdt, hflip, hfull⟩ := h.no_latch
  obtain ⟨hec, -, hreg⟩ := h.invariants.runningConfigured h.running
  obtain ⟨hedges, ht, later, hdraws⟩ :=
    h.setting.resolve_right fun ⟨hpast, _⟩ => Nat.succ_ne_zero edges hpast
  by_cases hlt : s.ecCount.val + 1 < 20
  · obtain ⟨c, hc⟩ : ∃ c : Count, c.val = s.ecCount.val + 1 := ⟨⟨_, hlt⟩, rfl⟩
    obtain ⟨-, hevt⟩ := reachCount_frame c s
    have hset : SettingAhead t edges { s with ecCount := c } := by
      have hleft : edges = 20 - c.val := by omega
      exact .inl ⟨hleft, ht, later, hdraws⟩
    rw [rise_below hec hc]
    exact landing_of_keepsSetting (y := { s with ecCount := c }) h.running h.answered hset
      (reachCount_keepsSetting c s) (hevt.trans hfull)
  · have hrise : rise s = postFull { s with ecCount := 0 } := by
      rw [rise_at_top hec (by omega)]
      exact if_pos hreg
    have hi := rise_invariants h.invariants
    have hf := rise_flipFollowsActive h.flipFollows
    rw [hrise] at hi hf ⊢
    obtain ⟨hforce, hrun, hanswer⟩ := wpService_inForce hi hf h.running hflip ht hdraws
    have hdue : handleDue (postFull { s with ecCount := 0 }) =
        wpService (postFull { s with ecCount := 0 }) := by
      simp [handleDue, dtEnabled, wpEnabled, hdt, h.running]
    rw [← hdue] at hforce hrun hanswer
    exact ⟨h.running, hrun.trans h.running, hanswer.trans h.answered, .inr ⟨by omega, hforce⟩⟩

theorem rise_inputs (s : State) : (rise s).inputs = s.inputs := by
  rcases rise_cases s with ⟨-, e⟩ | ⟨-, _, -, ⟨-, -, e⟩ | ⟨-, e⟩⟩ | ⟨-, -, ⟨-, e⟩ | ⟨-, e⟩⟩ <;>
    simp [e]

/-- A step of the environment that lands well, and the handler it makes due, stay on the way. -/
theorem TowardsBoundary.next {e : Input} {rest : List Input} {edges' : Nat} {x : State}
    (h : TowardsBoundary t edges s) (hin : s.inputs = e :: rest)
    (hfire : fire (.input e) { s with inputs := rest } = .next x) (hrest : x.inputs = rest)
    (hx : Landing t edges' x) :
    ∃ k u, RunsTo k s u ∧ u.inputs = rest ∧ TowardsBoundary t edges' u := by
  have htaken := h.of_inputs rest
  have hi : Invariants x := fire_invariants htaken.invariants hfire
  have hf : FlipFollowsActive x :=
    fire_flipFollowsActive htaken.invariants htaken.flipFollows hfire
  have he : Eager x := (fire_draws hfire).1.trans htaken.eager
  obtain ⟨k, hrun, hquiet, heager, hinputs⟩ :=
    exists_runsTo_handleDue h.quiet hin hfire he hx.running
  exact ⟨k, _, hrun, hinputs.trans hrest, handleDue_invariants hi,
    handleDue_flipFollowsActive hi hf, hquiet, heager, hx.handled, hx.answered, hx.setting⟩

end

/-! ### The rest of the cycle -/

theorem RunsTo.trans {j k : Nat} {s t u : State} (h : RunsTo j s t) (h' : RunsTo k t u) :
    RunsTo (j + k) s u := by
  induction j generalizing s with
  | zero =>
    obtain rfl : s = t := Host.Outcome.next.inj h
    rwa [Nat.zero_add]
  | succ j ih =>
    obtain ⟨r, hr, hrt⟩ := runsTo_succ_iff.1 h
    rw [Nat.succ_add]
    exact runsTo_succ_iff.2 ⟨r, hr, ih hrt⟩

/-- Edges, falling edges and ticks lead to the boundary and past it, by induction on them. -/
theorem TowardsBoundary.runsTo {t : Threshold} {rest cycle : List Input} {s : State}
    (h : TowardsBoundary t (cycle.count .rise) s) (hin : s.inputs = cycle ++ rest)
    (hcycle : ∀ e ∈ cycle, e = .rise ∨ e = .fall ∨ e = .tick) :
    ∃ k u, RunsTo k s u ∧ u.inputs = rest ∧ TowardsBoundary t 0 u := by
  induction cycle generalizing s with
  | nil => exact ⟨0, s, runsTo_zero s, hin, h⟩
  | cons e es ih =>
    have hfirst : ∃ k u, RunsTo k s u ∧ u.inputs = es ++ rest ∧
        TowardsBoundary t (es.count .rise) u := by
      rcases hcycle e List.mem_cons_self with rfl | rfl | rfl
      · rw [List.count_cons_self] at h
        exact h.next hin rfl (rise_inputs _) (h.of_inputs _).landing_rise
      · rw [List.count_cons_of_ne (by decide)] at h
        exact h.next hin rfl rfl (h.of_inputs _).landing_fall
      · rw [List.count_cons_of_ne (by decide)] at h
        exact h.next hin rfl (tick_frame _).1 (h.of_inputs _).landing_tick
    obtain ⟨j, x, hj, hx, htowards⟩ := hfirst
    obtain ⟨k, u, hk, hu⟩ := ih htowards hx fun e he => hcycle e (List.mem_cons_of_mem _ he)
    exact ⟨j + k, u, hj.trans hk, hu⟩

theorem decode_encode_setDutyCycle (t : Threshold) :
    decode (encode (.setDutyCycle t.val)) = .ok (.setDutyCycle t.val) := by
  have ht : t.val ≤ 20 := threshold_le_N t
  apply decode_encode
  simp only [Instr.wellFormed, decide_eq_true_eq]
  omega

/-- What the request itself leaves (R137): on the way to the boundary. -/
theorem request_towardsBoundary {s : State} {later : List Bool} (t : Threshold)
    (hi : Invariants s) (hf : FlipFollowsActive s) (hq : Quiet s) (he : Eager s)
    (hr : s.engState = .running) (hdraws : s.draws = false :: false :: later) :
    TowardsBoundary t (20 - s.ecCount.val) (respond .ok 0 (request t s)) := by
  have hexec := exec_setDutyCycle_threshold t s
  have hcommand : command (encode (.setDutyCycle t.val)) s = _ :=
    (fire_cmd_of_decode (decode_encode_setDutyCycle t) s).trans hexec
  have hkeeps : (request t s).ecCount = s.ecCount ∧ (request t s).draws = s.draws := by
    rcases request_cases t s with ⟨-, e⟩ | ⟨-, -, e⟩ | ⟨-, -, e⟩ <;> rw [e] <;> exact ⟨rfl, rfl⟩
  obtain ⟨hcount, hdraws'⟩ := hkeeps
  have hrun : (request t s).engState = .running := (request_engState t s).trans hr
  exact
    { invariants := exec_invariants hi hexec
      flipFollows := command_flipFollowsActive hf hcommand
      quiet := (quiet_iff _).2 fun _ => (request_latchesSet t s).trans ((quiet_iff s).1 hq hr)
      eager := (exec_draws hexec).1.trans he
      running := hrun
      answered := rfl
      setting := .inl ⟨by rw [respond_ecCount, hcount], request_requested t hr, later,
        hdraws'.trans hdraws⟩ }

/-- Settles O28: the request sets out for the boundary (`request_towardsBoundary`), and the rest of
the cycle leads there and past it (`TowardsBoundary.runsTo`). -/
theorem requestIsInForceAfterTheCycle : Obligations.RequestIsInForceAfterTheCycle := by
  intro s t cycle rest later hi hf hq he hr hdraws hcycle hcount hin
  have hfirst : step s = .next (respond .ok 0 (request t { s with inputs := cycle ++ rest })) := by
    rw [step_input_of_quiet hq hin, fire_cmd_of_decode (decode_encode_setDutyCycle t),
      exec_setDutyCycle_threshold]
  have hstart := request_towardsBoundary (s := { s with inputs := cycle ++ rest }) t { hi with }
    hf hq he hr hdraws
  have hedges : 20 - ({ s with inputs := cycle ++ rest } : State).ecCount.val =
      cycle.count .rise := hcount.symm
  rw [hedges] at hstart
  have hinputs : (request t { s with inputs := cycle ++ rest }).inputs = cycle ++ rest := by
    rcases request_cases t { s with inputs := cycle ++ rest } with
      ⟨-, e⟩ | ⟨-, -, e⟩ | ⟨-, -, e⟩ <;> rw [e]
  obtain ⟨k, u, hk, hrest, hend⟩ := hstart.runsTo hinputs hcycle
  have hforce : InForce t u := by
    obtain ⟨hedges, -⟩ | ⟨-, hforce⟩ := hend.setting
    · omega
    · exact hforce
  obtain ⟨hzero, hactive, hpending⟩ := hforce
  exact ⟨1 + k, u, ((runsTo_zero s).snoc hfirst).trans hk, hrest, hend.quiet, hend.running, hzero,
    hactive, hpending, hend.answered⟩

end Sys2Proof.Machine

/-! ## The Timing Engine's handlers (O29 to O31, O33) -/

namespace Sys2Proof.Machine

/-! ### The watch-point handler (R156), an equation per branch -/

section
variable {s : State}

/-- A latched FLIP event is entered first, and its latch and its trigger are all that the entry
touches (R156). -/
theorem wpService_of_flip (hflip : s.evtFlipPending = true) :
    wpService s = wpBranch s.evtFlipVal.val
      { s with evtFlipPending := false, triggerCount := s.triggerCount + 1 } := by
  have henter : enterWatchPoint s = (s.evtFlipVal.val, { s with evtFlipPending := false }) :=
    if_pos hflip
  rw [wpService, henter]
  rfl

/-- The FLIP branch (R157): the active threshold's point is passed, so LOW is to come. -/
theorem wpService_of_active_flip (hdt : s.dtConfigured = true) (hflip : s.evtFlipPending = true)
    (hpos : 0 < s.evtFlipVal.val) (hact : s.evtFlipVal.val = s.activeThreshold.val) :
    wpService s =
      { s with
        evtFlipPending := false, triggerCount := s.triggerCount + 1
        faultArmSupersede := s.faultArmSupersede || s.pol.isSome
        pol := some .low, dtRunning := true, dtCount := 0, dtEvtPending := false } := by
  rw [wpService_of_flip hflip, wpBranch, if_pos ⟨hpos, s.evtFlipVal.isLt, hact⟩, flipBranch]
  exact schedule_of_configured .low hdt

/-- A FLIP event of another value takes no branch (R159). -/
theorem wpService_of_stale_flip (hflip : s.evtFlipPending = true)
    (hstale : s.evtFlipVal.val ≠ s.activeThreshold.val) :
    wpService s =
      { s with evtFlipPending := false, triggerCount := s.triggerCount + 1 } := by
  rw [wpService_of_flip hflip, wpBranch, if_neg fun ⟨_, _, hact⟩ => hstale hact,
    if_neg (Nat.ne_of_lt s.evtFlipVal.isLt)]

/-- With nothing pending the FULL handler does what it does in every cycle, and no more (R158). -/
theorem wpService_of_no_request (hec : s.ecConfigured = true) (hdt : s.dtConfigured = true)
    (hflip : s.evtFlipPending = false) (hp : s.pendingValid = false) :
    wpService s = afterFull s.activeThreshold s := by
  have hnone : dcApplyPending (atBoundary s) = atBoundary s := if_pos hp
  rw [wpService_full hec hdt hflip, hnone]
  rfl

/-! ### The expiry handler (R165) -/

theorem dtService_of_configured (hdt : s.dtConfigured = true) :
    dtService s = writePin { s with dtEvtPending := false, dtRunning := false } := by
  rw [dtService, dtStop_of_configured (s := enterExpiry s) hdt]
  rfl

theorem dtService_of_no_intent (hdt : s.dtConfigured = true) (hpol : s.pol = none) :
    dtService s = { s with dtEvtPending := false, dtRunning := false } := by
  rw [dtService_of_configured hdt, writePin, hpol]

theorem dtService_of_intent {level : Level} (hdt : s.dtConfigured = true)
    (hpol : s.pol = some level) :
    dtService s =
      { s with dtEvtPending := false, dtRunning := false, out := level, pol := none } := by
  rw [dtService_of_configured hdt, writePin, hpol]

end

/-! ### What an application leaves pending -/

/-- After an application nothing is pending, and the setting is the old one or the one asked for
(R139). -/
theorem dcApplyPending_setting (s : State) :
    (dcApplyPending s).pendingValid = false ∧
      ((dcApplyPending s).activeThreshold = s.activeThreshold ∨
        (dcApplyPending s).activeThreshold = s.pendingThreshold) := by
  unfold dcApplyPending
  split
  · next hnone => exact ⟨hnone, .inl rfl⟩
  split
  · exact ⟨rfl, .inl rfl⟩
  obtain ⟨v, c, f, ds, n, e, -⟩ := dcSwap_frame s.pendingThreshold s
  refine ⟨rfl, ?_⟩
  simp only [finishApply, e]
  split
  · exact .inr rfl
  · exact .inl rfl

/-! ### The obligations -/

/-- Settles O29: the FLIP branch (`wpService_of_active_flip`). -/
theorem flipServiceSchedulesLow : Obligations.FlipServiceSchedulesLow := by
  intro s hl hdt hflip hpos hact
  obtain ⟨d, hspend, hstep⟩ := exists_step_wpService_eq hl
  rw [hstep, hspend]
  exact congrArg _ (wpService_of_active_flip hdt hflip hpos hact)

/-- Settles O31: no branch is taken (`wpService_of_stale_flip`). -/
theorem staleFlipOnlyCounts : Obligations.StaleFlipOnlyCounts := by
  intro s hl hflip hstale
  obtain ⟨d, hspend, hstep⟩ := exists_step_wpService_eq hl
  rw [hstep, hspend]
  exact congrArg _ (wpService_of_stale_flip hflip hstale)

/-- Settles O33: the two outcomes of the pin write (`dtService_of_no_intent`,
`dtService_of_intent`). -/
theorem expiryServiceWritesThePin : Obligations.ExpiryServiceWritesThePin := by
  intro s hl hdt
  obtain ⟨d, hspend⟩ := exists_spendDeferral_eq s
  have hstep : step s = .next (dtService { s with deferrals := d }) := by
    rw [step_of_nextLabel hl, hspend]
    rfl
  rw [hstep, hspend]
  exact ⟨fun hpol => congrArg _ (dtService_of_no_intent hdt hpol),
    fun level hpol => congrArg _ (dtService_of_intent hdt hpol)⟩

/-- Settles O30: with nothing pending the application does nothing (`wpService_of_no_request`); in
any case it stays within the fields of `withApplication` (`wpService_full`). -/
theorem fullServiceSchedulesTheNextLevel : Obligations.FullServiceSchedulesTheNextLevel := by
  intro s hl hdt hec hflip
  obtain ⟨d, hspend, hstep⟩ := exists_step_wpService_eq hl
  rw [hstep, hspend]
  refine ⟨fun hp => congrArg _ (wpService_of_no_request hec hdt hflip hp), ?_⟩
  obtain ⟨hnone, hactive⟩ := dcApplyPending_setting (atBoundary { s with deferrals := d })
  refine ⟨_, congrArg _ (wpService_full hec hdt hflip), hnone, hactive, rfl⟩

end Sys2Proof.Machine

/-! ## The writers of the pin and of the trigger count (O34, O43) -/

namespace Sys2Proof.Machine

/-! ### What leaves the pin, the trigger count and the environment's list alone -/

/-- The pin, the trigger count and the environment's list are those of `s`. -/
structure KeepsPinAndTally (s t : State) : Prop where
  out : t.out = s.out
  triggerCount : t.triggerCount = s.triggerCount
  inputs : t.inputs = s.inputs

theorem KeepsPinAndTally.refl (s : State) : KeepsPinAndTally s s := ⟨rfl, rfl, rfl⟩

theorem KeepsPinAndTally.trans {s t u : State} (h : KeepsPinAndTally s t)
    (h' : KeepsPinAndTally t u) : KeepsPinAndTally s u :=
  ⟨h'.out.trans h.out, h'.triggerCount.trans h.triggerCount, h'.inputs.trans h.inputs⟩

/-! ### The primitives and the commands -/

section
variable (s : State)

theorem ecConfigure_keepsPinAndTally (g : Arg) : KeepsPinAndTally s (ecConfigure g s).2 := by
  rcases ecConfigure_cases g s with ⟨-, e⟩ | ⟨-, e⟩ <;> rw [e] <;> exact ⟨rfl, rfl, rfl⟩

theorem ecAddWp_keepsPinAndTally (v : Nat) : KeepsPinAndTally s (ecAddWp v s).2 := by
  rcases ecAddWp_cases v s with ⟨-, e⟩ | ⟨-, -, -, -, e⟩ | ⟨_, -, -, -, -, -, e⟩ <;> rw [e] <;>
    exact ⟨rfl, rfl, rfl⟩

theorem ecRemoveWp_keepsPinAndTally (v : Nat) : KeepsPinAndTally s (ecRemoveWp v s).2 := by
  rcases ecRemoveWp_cases v s with ⟨-, e⟩ | ⟨-, -, -, -, e⟩ | ⟨-, -, -, -, -, e⟩ <;> rw [e] <;>
    exact ⟨rfl, rfl, rfl⟩

theorem ecClear_keepsPinAndTally : KeepsPinAndTally s (ecClear s).2 := by
  rcases ecClear_cases s with ⟨-, e⟩ | ⟨-, e⟩ <;> rw [e] <;> exact ⟨rfl, rfl, rfl⟩

theorem dtConfigure_keepsPinAndTally : KeepsPinAndTally s (dtConfigure s).2 := by
  rcases dtConfigure_cases s with ⟨-, e⟩ | ⟨-, e⟩ <;> rw [e] <;> exact ⟨rfl, rfl, rfl⟩

theorem dtResetAndStart_keepsPinAndTally : KeepsPinAndTally s (dtResetAndStart s).2 := by
  rcases dtResetAndStart_cases s with ⟨-, e⟩ | ⟨-, e⟩ <;> rw [e] <;> exact ⟨rfl, rfl, rfl⟩

theorem dtStop_keepsPinAndTally : KeepsPinAndTally s (dtStop s).2 := by
  rcases dtStop_cases s with ⟨-, e⟩ | ⟨-, e⟩ <;> rw [e] <;> exact ⟨rfl, rfl, rfl⟩

theorem request_keepsPinAndTally (v : Threshold) : KeepsPinAndTally s (request v s) := by
  rcases request_cases v s with ⟨-, e⟩ | ⟨-, -, e⟩ | ⟨-, -, e⟩ <;> rw [e] <;>
    exact ⟨rfl, rfl, rfl⟩

end

section
variable {s t : State}

theorem KeepsPinAndTally.respond (h : KeepsPinAndTally s t) (st : Status) (d : Word) :
    KeepsPinAndTally s (respond st d t) := ⟨h.out, h.triggerCount, h.inputs⟩

theorem directCommand_keepsPinAndTally {p : State → Status × State}
    (hp : KeepsPinAndTally s (p s).2) : KeepsPinAndTally s (directCommand p s) := by
  rcases directCommand_cases p s with ⟨-, e⟩ | ⟨-, e⟩ <;> rw [e]
  · exact (KeepsPinAndTally.refl s).respond _ _
  · exact hp.respond _ _

/-- A start that arms the engine zeroes the trigger count; otherwise it keeps it (R136). -/
theorem execEngStart_pinAndTally (h : execEngStart s = .next t) :
    KeepsPinAndTally s t ∨
      (t.out = s.out ∧ t.inputs = s.inputs ∧ t.triggerCount = 0 ∧ t.engState = .running) := by
  rcases execEngStart_cases h with ⟨-, rfl⟩ | ⟨-, hok, rfl⟩ | ⟨-, hno, rfl⟩
  · exact .inl ((KeepsPinAndTally.refl s).respond _ _)
  · rcases engSetup_cases s with ⟨hno, -⟩ | ⟨-, _, _, _, -, e⟩
    · exact absurd hok hno
    · rw [e]
      exact .inr ⟨rfl, rfl, rfl, rfl⟩
  · rcases engSetup_cases s with ⟨-, _, _, _, _, e⟩ | ⟨hok, -⟩
    · rw [e]
      exact .inl ⟨rfl, rfl, rfl⟩
    · exact absurd hok hno

/-- What a command leaves alone: all three, but for a start that arms the engine (R188). -/
theorem exec_pinAndTally {i : Instr} (h : exec i s = .next t) :
    KeepsPinAndTally s t ∨
      (i = .engStart ∧
        t.out = s.out ∧ t.inputs = s.inputs ∧ t.triggerCount = 0 ∧ t.engState = .running) := by
  by_cases hi : i = .engStart
  · subst hi
    exact (execEngStart_pinAndTally h).imp_right fun ht => ⟨rfl, ht⟩
  refine .inl ?_
  cases i with
  | ecConfigure g => cases h; exact directCommand_keepsPinAndTally (ecConfigure_keepsPinAndTally s _)
  | ecAddWp v => cases h; exact directCommand_keepsPinAndTally (ecAddWp_keepsPinAndTally s v)
  | ecRemoveWp v => cases h; exact directCommand_keepsPinAndTally (ecRemoveWp_keepsPinAndTally s v)
  | ecClear => cases h; exact directCommand_keepsPinAndTally (ecClear_keepsPinAndTally s)
  | dtConfigure => cases h; exact directCommand_keepsPinAndTally (dtConfigure_keepsPinAndTally s)
  | dtResetAndStart =>
    cases h; exact directCommand_keepsPinAndTally (dtResetAndStart_keepsPinAndTally s)
  | dtStop => cases h; exact directCommand_keepsPinAndTally (dtStop_keepsPinAndTally s)
  | engStart => exact absurd rfl hi
  | setDutyCycle v =>
    cases h
    split
    · exact (KeepsPinAndTally.refl s).respond _ _
    · exact (request_keepsPinAndTally s _).respond _ _
  | ecGetCount | getFrequency | takeApplyResult =>
    cases h
    split <;> exact ⟨rfl, rfl, rfl⟩
  | getDutyCycle | getTriggerCount | getCycleCount | getLastCycleTime | getStatus =>
    cases h
    exact (KeepsPinAndTally.refl s).respond _ _

theorem command_pinAndTally {w : Word} (h : command w s = .next t) :
    KeepsPinAndTally s t ∨
      (decode w = .ok .engStart ∧
        t.out = s.out ∧ t.inputs = s.inputs ∧ t.triggerCount = 0 ∧ t.engState = .running) := by
  rcases command_cases w s with ⟨_, -, e⟩ | ⟨i, hw, e⟩ <;> rw [e] at h
  · cases h
    exact .inl ((KeepsPinAndTally.refl s).respond _ _)
  · exact (exec_pinAndTally h).imp_right fun ⟨hi, ht⟩ => ⟨hi ▸ hw, ht⟩

end

/-! ### The edges and the ticks -/

section
variable (s : State)

theorem rise_keepsPinAndTally : KeepsPinAndTally s (rise s) := by
  rcases rise_cases s with ⟨-, e⟩ | ⟨-, _, -, ⟨-, -, e⟩ | ⟨-, e⟩⟩ | ⟨-, -, ⟨-, e⟩ | ⟨-, e⟩⟩ <;>
    rw [e] <;> exact ⟨rfl, rfl, rfl⟩

theorem tick_keepsPinAndTally : KeepsPinAndTally s (tick s) := by
  rcases tick_cases s with ⟨-, e⟩ | ⟨-, -, e⟩ | ⟨-, -, e⟩ <;> rw [e] <;> exact ⟨rfl, rfl, rfl⟩

/-! ### The handlers -/

theorem schedule_keepsPinAndTally (l : Level) : KeepsPinAndTally s (schedule l s) := by
  rcases schedule_cases l s with ⟨-, e⟩ | ⟨-, e⟩ <;> rw [e] <;> exact ⟨rfl, rfl, rfl⟩

theorem dcApplyPending_keepsPinAndTally : KeepsPinAndTally s (dcApplyPending s) := by
  rw [dcApplyPending_eq_withApplication]
  exact ⟨rfl, rfl, rfl⟩

theorem wpBranch_keepsPinAndTally (v : Nat) : KeepsPinAndTally s (wpBranch v s) := by
  rcases wpBranch_cases v s with ⟨-, -, -, e⟩ | ⟨-, e⟩ | ⟨-, -, e⟩ <;> rw [e]
  · exact schedule_keepsPinAndTally s .low
  · have hrecord : KeepsPinAndTally s (recordCycle s) := ⟨rfl, rfl, rfl⟩
    exact ((hrecord.trans (ecClear_keepsPinAndTally _)).trans
      (dcApplyPending_keepsPinAndTally _)).trans (schedule_keepsPinAndTally _ _)
  · exact .refl s

/-- `WP_SERVICE` counts its trigger, and keeps the pin whatever its branch (R156). -/
theorem wpService_pinAndTally :
    KeepsPinAndTally { s with triggerCount := s.triggerCount + 1 } (wpService s) := by
  have hcount : KeepsPinAndTally { s with triggerCount := s.triggerCount + 1 }
      (countTrigger (enterWatchPoint s).2) := by
    rcases enterWatchPoint_cases s with ⟨-, e⟩ | ⟨-, e⟩ <;> rw [e] <;> exact ⟨rfl, rfl, rfl⟩
  exact hcount.trans (wpBranch_keepsPinAndTally _ _)

theorem dtService_triggerCount : (dtService s).triggerCount = s.triggerCount := by
  have hstop := (dtStop_keepsPinAndTally (enterExpiry s)).triggerCount
  unfold dtService
  rcases writePin_cases (dtStop (enterExpiry s)).2 with ⟨-, e⟩ | ⟨_, -, e⟩ <;> rw [e] <;>
    exact hstop

theorem spendDeferral_keepsPinAndTally : KeepsPinAndTally s (spendDeferral s) := by
  obtain ⟨d, e⟩ := exists_spendDeferral_eq s
  rw [e]
  exact ⟨rfl, rfl, rfl⟩

end

/-! ### One step -/

section
variable {s t : State}

/-- A step of the environment keeps the pin and the trigger count, but for a reset and a start that
arms the engine; and it takes nothing more from the list than itself. -/
theorem fire_input_pinAndTally {e : Input} (h : fire (.input e) s = .next t) :
    KeepsPinAndTally s t ∨ (e = .reset ∧ t.inputs = s.inputs ∧ t.triggerCount = 0) ∨
      ((Label.input e).runs .engStart ∧
        t.out = s.out ∧ t.inputs = s.inputs ∧ t.triggerCount = 0 ∧ t.engState = .running) := by
  cases e with
  | rise => cases h; exact .inl (rise_keepsPinAndTally s)
  | fall => cases h; exact .inl (.refl s)
  | tick => cases h; exact .inl (tick_keepsPinAndTally s)
  | reset => cases h; exact .inr (.inl ⟨rfl, rfl, rfl⟩)
  | cmd w =>
    rcases command_pinAndTally h with hk | ⟨hw, ht⟩
    · exact .inl hk
    · exact .inr (.inr ⟨⟨w, rfl, hw⟩, ht⟩)

/-- Settles O34: the environment's steps keep the pin (`fire_input_pinAndTally`), and so does
`WP_SERVICE` (`wpService_pinAndTally`). -/
theorem onlyExpiryServiceWritesThePin : Obligations.OnlyExpiryServiceWritesThePin := by
  intro s t h hne
  have hspent := (spendDeferral_keepsPinAndTally s).out
  rcases step_cases h with ⟨-, rfl⟩ | ⟨l, hl, hfire⟩
  · exact absurd hspent hne
  cases l with
  | dtService => exact .inl hl
  | wpService =>
    cases hfire
    exact absurd ((wpService_pinAndTally _).out.trans hspent) hne
  | input e =>
    rcases fire_input_pinAndTally hfire with hk | ⟨rfl, -⟩ | ⟨-, hout, -⟩
    · exact absurd (hk.out.trans hspent) hne
    · exact .inr hl
    · exact absurd (hout.trans hspent) hne

/-- Settles O43: `WP_SERVICE` counts (`wpService_pinAndTally`), `DT_SERVICE` does not, and a step of
the environment zeroes the count or keeps it (`fire_input_pinAndTally`). -/
theorem triggerCountCountsServices : Obligations.TriggerCountCountsServices := by
  intro s t h
  have hspent := (spendDeferral_keepsPinAndTally s).triggerCount
  rcases step_cases h with ⟨hl, rfl⟩ | ⟨l, hl, hfire⟩
  · rw [hl]
    exact ⟨nofun, fun _ hne => absurd hspent hne⟩
  rw [hl]
  cases l with
  | wpService =>
    cases hfire
    refine ⟨fun _ => ?_, fun hno => absurd rfl hno⟩
    exact (wpService_pinAndTally _).triggerCount.trans (congrArg (· + 1) hspent)
  | dtService =>
    cases hfire
    exact ⟨nofun, fun _ hne => absurd ((dtService_triggerCount _).trans hspent) hne⟩
  | input e =>
    refine ⟨nofun, fun _ hne => ?_⟩
    rcases fire_input_pinAndTally hfire with hk | ⟨rfl, -, hzero⟩ | ⟨hstart, -, -, hzero, hrun⟩
    · exact absurd (hk.triggerCount.trans hspent) hne
    · exact ⟨hzero, .inl rfl⟩
    · exact ⟨hzero, .inr ⟨_, rfl, hstart, hrun⟩⟩

end

end Sys2Proof.Machine

/-! ## The phase of a cycle (O36) -/

namespace Sys2Proof.Machine

/-! ### The phase (R155) -/

theorem phase?_of_running {s : State} (hr : s.engState = .running) :
    phase? s = some (if pastFlip s then .waitingFull else .waitingFlip) := if_pos hr

theorem pastFlip_iff (s : State) :
    pastFlip s = true ↔ s.wpFlipValid = true ∧ s.wpFlipVal ≤ s.ecCount := by
  simp [pastFlip]

/-- Where the count goes one up and does not land on the FLIP point, it passes none (R155). -/
theorem pastFlip_of_succ {s : State} {c : Count} (hc : c.val = s.ecCount.val + 1)
    (hno : s.wpFlipValid = false ∨ s.wpFlipVal ≠ c) :
    pastFlip { s with ecCount := c } = pastFlip s := by
  rw [Bool.eq_iff_iff, pastFlip_iff, pastFlip_iff]
  rcases hno with hv | hne
  · simp [hv]
  · have hval : s.wpFlipVal.val ≠ c.val := fun h => hne (Fin.ext h)
    simp only [Fin.le_def, and_congr_right_iff]
    omega

/-- The FLIP point is at 1 or above (I2), so the count 0 is before it. -/
theorem pastFlip_of_count_zero {s : State} (hi : Invariants s) (h0 : s.ecCount = 0) :
    pastFlip s = false := by
  rw [Bool.eq_false_iff, Ne, pastFlip_iff]
  rintro ⟨hv, hle⟩
  obtain ⟨hpos, -⟩ := hi.flipInRange hv
  rw [h0, Fin.le_def] at hle
  exact absurd hpos (Nat.not_lt.2 hle)

/-- Where an edge moves the phase of a running engine (R155, R110). -/
theorem phase?_rise {s : State} (hi : Invariants s) (hr : s.engState = .running) :
    phase? (rise s) =
      if (rise s).ecCount.val = 0 then some .waitingFlip
      else if (rise s).wpFlipValid = true ∧ (rise s).wpFlipVal = (rise s).ecCount then
        some .waitingFull
      else phase? s := by
  obtain ⟨hec, -, -⟩ := hi.runningConfigured hr
  have hrun : (rise s).engState = .running := (rise_engState s).trans hr
  rcases rise_cases s with ⟨hno, -⟩ | ⟨-, c, hc, ⟨hv, hval, e⟩ | ⟨hne, e⟩⟩ | ⟨-, -, hwrap⟩
  · exact absurd (hec.symm.trans hno) (by decide)
  · have hne0 : c.val ≠ 0 := by omega
    have hpast : pastFlip (postFlip c { s with ecCount := c }) = true :=
      (pastFlip_iff _).2 ⟨hv, hval.le⟩
    rw [phase?_of_running hrun, e, hpast]
    exact ((if_neg hne0).trans (if_pos ⟨hv, hval⟩)).symm
  · have hne0 : c.val ≠ 0 := by omega
    have hnot : ¬ (s.wpFlipValid = true ∧ s.wpFlipVal = c) := fun ⟨hv, hval⟩ =>
      hne.elim (by simp [hv]) (absurd hval)
    rw [phase?_of_running hrun, e, pastFlip_of_succ hc hne, ← phase?_of_running hr]
    exact ((if_neg hne0).trans (if_neg hnot)).symm
  · have h0 : (rise s).ecCount = 0 := by
      rcases hwrap with ⟨-, e⟩ | ⟨-, e⟩ <;> exact congrArg State.ecCount e
    have hval : (rise s).ecCount.val = 0 := congrArg Fin.val h0
    rw [if_pos hval, phase?_of_running hrun, pastFlip_of_count_zero (rise_invariants hi) h0]
    rfl

/-- Settles O36: the three outcomes of a count (`phase?_rise`), from the state the schedule leaves. -/
theorem phaseMovesAtFlipAndBoundary : Obligations.PhaseMovesAtFlipAndBoundary := by
  intro s t hi hr hl h
  obtain ⟨d, hspend⟩ := exists_spendDeferral_eq s
  rw [step_of_nextLabel hl, hspend] at h
  cases h
  exact phase?_rise (s := { s with inputs := s.inputs.tail, deferrals := d }) { hi with } hr

end Sys2Proof.Machine

/-! ## An arm's level is on the pin 2000 ticks later (O35) -/

namespace Sys2Proof.Machine

/-! ### One run from a state -/

theorem RunsTo.unique {k : Nat} {s t u : State} (h : RunsTo k s t) (h' : RunsTo k s u) : t = u :=
  Host.Outcome.next.inj (h.symm.trans h')

/-- What comes later in a run comes from where the run has got to. -/
theorem RunsTo.rest {j k : Nat} {s t u : State} (h : RunsTo j s t) (h' : RunsTo (j + k) s u) :
    RunsTo k t u := by
  induction j generalizing s with
  | zero =>
    obtain rfl : s = t := Host.Outcome.next.inj h
    rwa [Nat.zero_add] at h'
  | succ j ih =>
    obtain ⟨r, hr, hrt⟩ := runsTo_succ_iff.1 h
    rw [Nat.succ_add] at h'
    obtain ⟨r', hr', hru⟩ := runsTo_succ_iff.1 h'
    obtain rfl : r = r' := Host.Outcome.next.inj (hr.symm.trans hr')
    exact ih hrt hru

/-! ### From the arm to the pin -/

section
variable {s : State}

theorem latches_of_quiet (hq : Quiet s) (hr : s.engState = .running) :
    s.dtEvtPending = false ∧ s.evtFlipPending = false ∧ s.evtFullPending = false :=
  (handlerEnabled_eq_false_iff s).1 hq hr

theorem handleDue_of_expiry (hr : s.engState = .running) (hevt : s.dtEvtPending = true) :
    handleDue s = dtService s := if_pos (by simp [dtEnabled, hr, hevt])

/-- In the reference schedule a latched expiry of a running engine is serviced next (R9, R206). -/
theorem step_of_expiry_due (he : Eager s) (hr : s.engState = .running)
    (hevt : s.dtEvtPending = true) : step s = .next (dtService s) := by
  have hdue : handlerEnabled s = true := by simp [handlerEnabled, dtEnabled, hr, hevt]
  rw [step_of_due he hdue, handleDue_of_expiry hr hevt]

/-- Where an expiry is latched at its end, a run goes on by the handler. -/
theorem RunsTo.expiry {k : Nat} {t u : State} (h : RunsTo k s t) (he : Eager t)
    (hr : t.engState = .running) (hevt : t.dtEvtPending = true) (hu : dtService t = u) :
    RunsTo (k + 1) s u := h.snoc ((step_of_expiry_due he hr hevt).trans (congrArg _ hu))

/-- The step after the 2000th tick is the expiry handler's (R167, R208). -/
theorem runsTo_pinWrite {level : Level} {rest : List Input} (hr : s.engState = .running)
    (hdt : s.dtConfigured = true) (hrun : s.dtRunning = true) (h0 : s.dtCount = 0)
    (hpol : s.pol = some level) (hq : Quiet s) (he : Eager s)
    (hin : s.inputs = ticks 2000 ++ rest) :
    RunsTo 2001 s
      { s with
        inputs := rest, now := s.now + 2000
        dtCount := 2000, dtRunning := false, pol := none, out := level } := by
  obtain ⟨hevt, -, -⟩ := latches_of_quiet hq hr
  obtain ⟨-, hexpiry⟩ := expiryComesExactly2000TicksAfterArm s rest hrun h0 hevt hq hin
  refine hexpiry.expiry he hr rfl ((dtService_of_intent (level := level) ?_ ?_).trans ?_)
  · exact hdt
  · exact hpol
  · rw [← hevt]

/-- Settles O35: the ticks leave the pin alone (O20), and the step after them is the expiry
handler's (`runsTo_pinWrite`). -/
theorem pinFollowsTheArmAfter2000Ticks : Obligations.PinFollowsTheArmAfter2000Ticks := by
  intro s level rest hr hdt hrun h0 hpol hq he hin
  obtain ⟨hevt, -, -⟩ := latches_of_quiet hq hr
  obtain ⟨hbefore, hexpiry⟩ := expiryComesExactly2000TicksAfterArm s rest hrun h0 hevt hq hin
  refine ⟨fun k hk t ht => ?_, runsTo_pinWrite hr hdt hrun h0 hpol hq he hin⟩
  rcases Nat.lt_or_eq_of_le hk with hlt | rfl
  · rw [ht.unique (hbefore k hlt)]
  · rw [ht.unique hexpiry]

end

end Sys2Proof.Machine

/-! ## The pin over one cycle (O38) -/

namespace Sys2Proof.Machine

/-! ### Runs whose quiet states have a property -/

/-- Some run leads from `s` to `u`, and the quiet states in it before `u` have the property `P`. -/
def QuietlyTo (P : State → Prop) (s u : State) : Prop :=
  ∃ k, RunsTo k s u ∧ ∀ j < k, ∀ v, RunsTo j s v → Quiet v → P v

section
variable {P : State → Prop} {s t u : State}

theorem QuietlyTo.refl (P : State → Prop) (s : State) : QuietlyTo P s s :=
  ⟨0, runsTo_zero s, fun _ hj => absurd hj (Nat.not_lt_zero _)⟩

theorem QuietlyTo.trans (h : QuietlyTo P s t) (h' : QuietlyTo P t u) : QuietlyTo P s u := by
  obtain ⟨i, hi, hP⟩ := h
  obtain ⟨k, hk, hP'⟩ := h'
  refine ⟨i + k, hi.trans hk, fun j hj v hv hq => ?_⟩
  rcases Nat.lt_or_ge j i with hlt | hge
  · exact hP j hlt v hv hq
  · obtain ⟨m, rfl⟩ := Nat.exists_eq_add_of_le hge
    exact hP' m (Nat.lt_of_add_lt_add_left hj) v (hi.rest hv) hq

/-- An environment step from a quiet state and the handler it makes due, if any: the state between
them is not quiet. -/
theorem quietlyTo_handleDue {x : State} {e : Input} {rest : List Input} (hq : Quiet s)
    (hin : s.inputs = e :: rest)
    (hfire : fire (.input e) { s with inputs := rest } = .next x) (hx : Eager x) (hP : P s) :
    QuietlyTo P s (handleDue x) := by
  have hfirst : RunsTo 1 s x := (runsTo_zero s).snoc ((step_input_of_quiet hq hin).trans hfire)
  have hstart : ∀ v, RunsTo 0 s v → P v := fun v hv => (runsTo_zero s).unique hv ▸ hP
  cases hh : handlerEnabled x with
  | false =>
    rw [handleDue_of_quiet hh]
    refine ⟨1, hfirst, fun j hj v hv _ => ?_⟩
    obtain rfl : j = 0 := by omega
    exact hstart v hv
  | true =>
    refine ⟨2, hfirst.snoc (step_of_due hx hh), fun j hj v hv hqv => ?_⟩
    obtain rfl | rfl : j = 0 ∨ j = 1 := by omega
    · exact hstart v hv
    · rw [← hfirst.unique hv, Quiet, hh] at hqv
      exact absurd hqv (by decide)

/-- Ticks on a stopped timer: every quiet state has the pin as it was. -/
theorem quietlyTo_ticks_of_stopped {k : Nat} {rest : List Input} (hr : s.dtRunning = false)
    (hq : Quiet s) (hin : s.inputs = ticks k ++ rest)
    (hP : ∀ j < k, ∀ v : State, v.out = s.out → v.now = s.now + BitVec.ofNat 64 j → P v) :
    QuietlyTo P s { s with inputs := rest, now := s.now + BitVec.ofNat 64 k } := by
  refine ⟨k, runsTo_ticks_of_stopped hr hq k rest hin, fun j hj v hv _ => ?_⟩
  have hsplit : s.inputs = ticks j ++ (ticks (k - j) ++ rest) := by
    rw [hin, ← List.append_assoc, ← ticks_add, Nat.add_sub_cancel' hj.le]
  refine hP j hj v ?_ ?_ <;> rw [hv.unique (runsTo_ticks_of_stopped hr hq j _ hsplit)]

/-- From an arm to the pin write (O35): every quiet state before it has the pin as it was, for the
state after the 2000th tick is not quiet. -/
theorem quietlyTo_pinWrite {level : Level} {rest : List Input} (hr : s.engState = .running)
    (hdt : s.dtConfigured = true) (hrun : s.dtRunning = true) (h0 : s.dtCount = 0)
    (hpol : s.pol = some level) (hq : Quiet s) (he : Eager s) (hin : s.inputs = ticks 2000 ++ rest)
    (hP : ∀ j < 2000, ∀ v : State, v.out = s.out → v.now = s.now + BitVec.ofNat 64 j → P v) :
    QuietlyTo P s
      { s with
        inputs := rest, now := s.now + 2000
        dtCount := 2000, dtRunning := false, pol := none, out := level } := by
  obtain ⟨hevt, -, -⟩ := latches_of_quiet hq hr
  obtain ⟨hbefore, hexpiry⟩ := expiryComesExactly2000TicksAfterArm s rest hrun h0 hevt hq hin
  refine ⟨2001, runsTo_pinWrite hr hdt hrun h0 hpol hq he hin, fun j hj v hv hqv => ?_⟩
  rcases Nat.lt_or_eq_of_le (Nat.le_of_lt_succ hj) with hlt | rfl
  · refine hP j hlt v ?_ ?_ <;> rw [hv.unique (hbefore j hlt)]
  · rw [hv.unique hexpiry] at hqv
    obtain ⟨hno, -, -⟩ := latches_of_quiet hqv hr
    cases hno

/-- From an arm on, the pin is as it was for 2000 ticks and at the intended level after them. -/
theorem quietlyTo_ticks_of_armed {level : Level} {k : Nat} {rest : List Input}
    (hr : s.engState = .running) (hdt : s.dtConfigured = true) (hrun : s.dtRunning = true)
    (h0 : s.dtCount = 0) (hpol : s.pol = some level) (hq : Quiet s) (he : Eager s) (hk : 2000 ≤ k)
    (hin : s.inputs = ticks k ++ rest)
    (hbefore : ∀ j < 2000, ∀ v : State,
      v.out = s.out → v.now = s.now + BitVec.ofNat 64 j → P v)
    (hafter : ∀ j < k, 2000 ≤ j → ∀ v : State,
      v.out = level → v.now = s.now + BitVec.ofNat 64 j → P v) :
    QuietlyTo P s
      { s with
        inputs := rest, now := s.now + BitVec.ofNat 64 k
        dtCount := 2000, dtRunning := false, pol := none, out := level } := by
  obtain ⟨m, rfl⟩ := Nat.exists_eq_add_of_le hk
  have hnow (j : Nat) : s.now + 2000 + BitVec.ofNat 64 j = s.now + BitVec.ofNat 64 (2000 + j) := by
    rw [BitVec.ofNat_add, ← BitVec.add_assoc]
    rfl
  rw [ticks_add, List.append_assoc] at hin
  rw [← hnow]
  refine (quietlyTo_pinWrite hr hdt hrun h0 hpol hq he hin hbefore).trans
    (quietlyTo_ticks_of_stopped rfl hq rfl fun j hj v hout hv => ?_)
  exact hafter (2000 + j) (Nat.add_lt_add_left hj 2000) (Nat.le_add_right 2000 j) v hout
    (hv.trans (hnow j))

end

/-! ### The three kinds of edge of a running engine -/

/-- A quiet state of a configured engine that runs in the reference schedule, with nothing pending. -/
structure Poised (s : State) : Prop where
  quiet : Quiet s
  eager : Eager s
  running : s.engState = .running
  ecConfigured : s.ecConfigured = true
  dtConfigured : s.dtConfigured = true
  fullValid : s.wpFullValid = true
  noRequest : s.pendingValid = false

section
variable {P : State → Prop} {u : State} {c : Count} {tail : List Input}

theorem Poised.of_inputs (h : Poised u) (rest : List Input) : Poised { u with inputs := rest } :=
  { h with }

theorem handleDue_of_watchPoint (hr : u.engState = .running) (hno : u.dtEvtPending = false)
    (hw : u.evtFlipPending = true ∨ u.evtFullPending = true) : handleDue u = wpService u := by
  rw [handleDue, if_neg (by simp [dtEnabled, hno]), if_pos (by simp [wpEnabled, hr, hw])]

/-- The FLIP event of the active threshold arms the timer for LOW (R157). -/
theorem Poised.handleDue_postFlip (h : Poised u) (hpos : 0 < c.val)
    (hact : c.val = u.activeThreshold.val) (hpol : u.pol = none) :
    handleDue (postFlip c u) =
      { u with
        evtFlipVal := c, triggerCount := u.triggerCount + 1
        pol := some .low, dtRunning := true, dtCount := 0 } := by
  obtain ⟨hexpiry, hflip, -⟩ := latches_of_quiet h.quiet h.running
  rw [handleDue_of_watchPoint (u := postFlip c u) h.running hexpiry (.inl rfl),
    wpService_of_active_flip (s := postFlip c u) h.dtConfigured rfl hpos hact]
  simp [postFlip, hexpiry, hflip, hpol]

/-- The FULL event: its handler does what it does in every cycle (R158). -/
theorem Poised.handleDue_postFull (h : Poised u) :
    handleDue (postFull u) = afterFull u.activeThreshold u := by
  obtain ⟨hexpiry, hflip, hfull⟩ := latches_of_quiet h.quiet h.running
  rw [handleDue_of_watchPoint (u := postFull u) h.running hexpiry (.inr rfl),
    wpService_of_no_request (s := postFull u) h.ecConfigured h.dtConfigured hflip h.noRequest]
  simp [afterFull, postFull, hfull]

/-- An edge, and the handler it makes due. -/
theorem Poised.quietlyTo_rise {x : State} (h : Poised u) (hin : u.inputs = .rise :: tail)
    (hrise : rise { u with inputs := tail } = x) (hP : P u) : QuietlyTo P u (handleDue x) := by
  have hfire : fire (.input .rise) { u with inputs := tail } = .next x := congrArg _ hrise
  exact quietlyTo_handleDue h.quiet hin hfire ((fire_draws hfire).1.trans h.eager) hP

/-- An edge that lands below the top and on no FLIP point counts, and no more (R110). -/
theorem Poised.countEdge (h : Poised u) (hin : u.inputs = .rise :: tail)
    (hc : c.val = u.ecCount.val + 1) (hno : u.wpFlipVal ≠ c) (hP : P u) :
    QuietlyTo P u { u with inputs := tail, ecCount := c } := by
  have hrise : rise { u with inputs := tail } = { u with inputs := tail, ecCount := c } :=
    (rise_below (h.of_inputs tail).ecConfigured hc).trans (if_neg fun ⟨_, hval⟩ => hno hval)
  have hquiet : Quiet { u with inputs := tail, ecCount := c } := h.quiet
  rw [← handleDue_of_quiet hquiet]
  exact h.quietlyTo_rise hin hrise hP

/-- The edge on the FLIP point of the active threshold arms the timer for LOW (R110). -/
theorem Poised.flipEdge (h : Poised u) (hin : u.inputs = .rise :: tail)
    (hc : c.val = u.ecCount.val + 1) (hv : u.wpFlipValid = true) (hval : u.wpFlipVal = c)
    (hact : c.val = u.activeThreshold.val) (hpol : u.pol = none) (hP : P u) :
    QuietlyTo P u
      { u with
        inputs := tail, ecCount := c, evtFlipVal := c, triggerCount := u.triggerCount + 1
        pol := some .low, dtRunning := true, dtCount := 0 } := by
  have hlanded : Poised { u with inputs := tail, ecCount := c } := { h with }
  have hrise : rise { u with inputs := tail } =
      postFlip c { u with inputs := tail, ecCount := c } :=
    (rise_below (h.of_inputs tail).ecConfigured hc).trans (if_pos ⟨hv, hval⟩)
  have hdue := hlanded.handleDue_postFlip (hc ▸ Nat.succ_pos _) hact hpol
  have hpath := h.quietlyTo_rise hin hrise hP
  rwa [hdue] at hpath

/-- The edge at the top is the boundary (R110). -/
theorem Poised.boundaryEdge (h : Poised u) (hin : u.inputs = .rise :: tail)
    (h19 : u.ecCount.val = 19) (hP : P u) :
    QuietlyTo P u (afterFull u.activeThreshold { u with inputs := tail }) := by
  have hlanded : Poised { u with inputs := tail, ecCount := 0 } := { h with }
  have hrise : rise { u with inputs := tail } = postFull { u with inputs := tail, ecCount := 0 } :=
    (rise_at_top (h.of_inputs tail).ecConfigured h19).trans (if_pos h.fullValid)
  have hpath := h.quietlyTo_rise hin hrise hP
  rwa [hlanded.handleDue_postFull] at hpath

end

/-! ### The waveform (R168) -/

/-- The level of the pin `el` microseconds after a boundary, for the threshold `a` and edges `d`
microseconds apart. -/
def waveform (d a el : Nat) : Level := if 2000 ≤ el ∧ el < a * d + 2000 then .high else .low

/-- The level of the pin between edge `e` and the pin write 2000 microseconds after it. -/
def levelAtEdge (a e : Nat) : Level := if 0 < e ∧ e ≤ a then .high else .low

/-- The intent that edge `e` leaves: the boundary asks for HIGH, the FLIP edge for LOW. -/
def intentAtEdge (a e : Nat) : Option Level :=
  if e = 0 then some .high else if e = a then some .low else none

section
variable {d a e j : Nat}

theorem waveform_before_write (hd : 2000 < d) (hj : j < 2000) :
    waveform d a (e * d + j) = levelAtEdge a e := by
  unfold waveform levelAtEdge
  congr 1
  rw [eq_iff_iff]
  constructor
  · rintro ⟨hge, hlt⟩
    constructor
    · by_contra h0
      obtain rfl : e = 0 := by omega
      omega
    · by_contra hgt
      have hmul : (a + 1) * d ≤ e * d := Nat.mul_le_mul_right d (by omega)
      rw [Nat.succ_mul] at hmul
      omega
  · rintro ⟨hpos, hle⟩
    have hlow : 1 * d ≤ e * d := Nat.mul_le_mul_right d hpos
    have hhigh : e * d ≤ a * d := Nat.mul_le_mul_right d hle
    omega

theorem waveform_after_write (hj : 2000 ≤ j) (hjd : j ≤ d) :
    waveform d a (e * d + j) = levelAtEdge a (e + 1) := by
  unfold waveform levelAtEdge
  congr 1
  rw [eq_iff_iff]
  constructor
  · rintro ⟨-, hlt⟩
    refine ⟨Nat.succ_pos e, ?_⟩
    by_contra hgt
    have hmul : a * d ≤ e * d := Nat.mul_le_mul_right d (by omega)
    omega
  · rintro ⟨-, hle⟩
    have hmul : (e + 1) * d ≤ a * d := Nat.mul_le_mul_right d hle
    rw [Nat.succ_mul] at hmul
    omega

theorem intentAtEdge_cases (ha : 0 < a) (e : Nat) :
    intentAtEdge a e = some (levelAtEdge a (e + 1)) ∨
      (intentAtEdge a e = none ∧ levelAtEdge a (e + 1) = levelAtEdge a e) := by
  unfold intentAtEdge levelAtEdge
  by_cases h0 : e = 0
  · have h1 : 1 ≤ a := ha
    exact .inl (by simp [h0, h1])
  by_cases he : e = a
  · exact .inl (by simp [he, ha.ne'])
  · refine .inr ⟨by simp [h0, he], ?_⟩
    congr 1
    rw [eq_iff_iff]
    omega

end

/-! ### The states of the cycle -/

/-- `s` with the fields that a cycle moves before its end as they are in `y`: the environment's list,
the clock, the count and its event's value, the timer, the intent, the pin and the trigger count. -/
def withClockwork (y s : State) : State :=
  { s with
    inputs := y.inputs, now := y.now, ecCount := y.ecCount, evtFlipVal := y.evtFlipVal
    dtRunning := y.dtRunning, dtCount := y.dtCount, pol := y.pol, out := y.out
    triggerCount := y.triggerCount }

theorem withClockwork_trans {s u v : State} (hu : u = withClockwork u s)
    (hv : v = withClockwork v u) : v = withClockwork v s :=
  calc
    v = withClockwork v u := hv
    _ = withClockwork v (withClockwork u s) := congrArg (withClockwork v) hu
    _ = withClockwork v s := rfl

/-- A state at a boundary, with a cycle of twenty edges `d` microseconds apart to come. -/
structure CycleStart (s : State) (d : Nat) (rest : List Input) : Prop where
  poised : Poised s
  flipValid : s.wpFlipValid = true
  flipActive : s.wpFlipVal.val = s.activeThreshold.val
  flipInside : 0 < s.activeThreshold.val ∧ s.activeThreshold.val < 20
  count : s.ecCount = 0
  intent : s.pol = some .high
  armed : s.dtRunning = true ∧ s.dtCount = 0
  out : s.out = .low
  spacing : 2000 < d ∧ 20 * d < 2 ^ 64
  inputs : s.inputs = risesEvery 20 d ++ rest

/-- The pin follows the waveform of the cycle that began in `s`. -/
def OnWaveform (s : State) (d : Nat) (v : State) : Prop :=
  v.out = waveform d s.activeThreshold.val (v.now - s.now).toNat

/-- The quiet state after edge `e` of the cycle from `s`, the boundary being edge 0. -/
structure AtEdge (s : State) (d : Nat) (rest : List Input) (e : Nat) (v : State) : Prop where
  frame : v = withClockwork v s
  inputs : v.inputs = risesEvery (20 - e) d ++ rest
  now : v.now = s.now + BitVec.ofNat 64 (e * d)
  count : v.ecCount.val = e
  intent : v.pol = intentAtEdge s.activeThreshold.val e
  running : v.dtRunning = v.pol.isSome
  fresh : v.pol.isSome = true → v.dtCount = 0
  out : v.out = levelAtEdge s.activeThreshold.val e
  tally : v.triggerCount = s.triggerCount + if s.activeThreshold.val ≤ e then 1 else 0

/-- The quiet state in which the edge after edge `e` comes: the intent, if any, is on the pin. -/
structure BeforeEdge (s : State) (d : Nat) (rest : List Input) (e : Nat) (v : State) : Prop where
  frame : v = withClockwork v s
  inputs : v.inputs = .rise :: (risesEvery (20 - (e + 1)) d ++ rest)
  now : v.now = s.now + BitVec.ofNat 64 ((e + 1) * d)
  count : v.ecCount.val = e
  intent : v.pol = none
  stopped : v.dtRunning = false
  out : v.out = levelAtEdge s.activeThreshold.val (e + 1)
  tally : v.triggerCount = s.triggerCount + if s.activeThreshold.val ≤ e then 1 else 0

section
variable {s u v : State} {d e : Nat} {rest : List Input}

theorem Poised.of_frame (h : Poised s) (hv : v = withClockwork v s) : Poised v := by
  rw [hv]
  exact { h with }

/-- What a cycle keeps before its end: the FLIP slot, the setting, the cycle count and the record of
a superseded intent. -/
theorem fields_of_frame (hv : v = withClockwork v s) :
    v.wpFlipValid = s.wpFlipValid ∧ v.wpFlipVal = s.wpFlipVal ∧
      v.activeThreshold = s.activeThreshold ∧ v.cycleCount = s.cycleCount ∧
      v.faultArmSupersede = s.faultArmSupersede := by
  rw [hv]
  exact ⟨rfl, rfl, rfl, rfl, rfl⟩

theorem risesEvery_of_lt (he : e < 20) :
    risesEvery (20 - e) d ++ rest = ticks d ++ .rise :: (risesEvery (20 - (e + 1)) d ++ rest) := by
  have hsucc : 20 - e = 20 - (e + 1) + 1 := by omega
  rw [hsucc, risesEvery, List.append_assoc]
  rfl

/-- The time since the boundary, from the clock (R12: it does not wrap within the cycle). -/
theorem CycleStart.onWaveform {j : Nat} (hs : CycleStart s d rest) (he : e < 20) (hj : j ≤ d)
    (hnow : v.now = s.now + BitVec.ofNat 64 (e * d) + BitVec.ofNat 64 j)
    (hout : v.out = waveform d s.activeThreshold.val (e * d + j)) : OnWaveform s d v := by
  obtain ⟨-, hsmall⟩ := hs.spacing
  have hmul : e * d ≤ 19 * d := Nat.mul_le_mul_right d (by omega)
  have hel : (v.now - s.now).toNat = e * d + j := by
    rw [hnow, BitVec.add_assoc, ← BitVec.ofNat_add, BitVec.add_comm, BitVec.add_sub_cancel,
      BitVec.toNat_ofNat, Nat.mod_eq_of_lt (by omega)]
  rw [OnWaveform, hel, hout]

/-! ### From edge to edge -/

theorem CycleStart.atEdge (hs : CycleStart s d rest) : AtEdge s d rest 0 s where
  frame := rfl
  inputs := hs.inputs
  now := by simp
  count := congrArg Fin.val hs.count
  intent := hs.intent
  running := by rw [hs.armed.1, hs.intent]; rfl
  fresh _ := hs.armed.2
  out := hs.out
  tally := by
    obtain ⟨hpos, -⟩ := hs.flipInside
    rw [if_neg (by omega)]
    simp

theorem AtEdge.now_add (h : AtEdge s d rest e v) :
    v.now + BitVec.ofNat 64 d = s.now + BitVec.ofNat 64 ((e + 1) * d) := by
  rw [h.now, BitVec.add_assoc, ← BitVec.ofNat_add, Nat.succ_mul]

/-- Up to 2000 ticks after an edge the pin has the level it had at the edge. -/
theorem AtEdge.onWaveform_before_write {w : State} {j : Nat} (hs : CycleStart s d rest)
    (he : e < 20) (h : AtEdge s d rest e v) (hj : j < 2000) (hout : w.out = v.out)
    (hnow : w.now = v.now + BitVec.ofNat 64 j) : OnWaveform s d w := by
  obtain ⟨hd, -⟩ := hs.spacing
  exact hs.onWaveform he (by omega) (by rw [hnow, h.now])
    ((hout.trans h.out).trans (waveform_before_write hd hj).symm)

/-- Where an edge armed the timer, its intent is on the pin after 2000 ticks (O35), and stays there. -/
theorem AtEdge.beforeEdge_of_intent (hs : CycleStart s d rest) (he : e < 20)
    (h : AtEdge s d rest e v) (hl : v.pol = some (levelAtEdge s.activeThreshold.val (e + 1))) :
    ∃ u, BeforeEdge s d rest e u ∧ QuietlyTo (OnWaveform s d) v u := by
  have hp := hs.poised.of_frame h.frame
  obtain ⟨hd, -⟩ := hs.spacing
  have hsome : v.pol.isSome = true := by rw [hl]; rfl
  refine ⟨_, ?_, quietlyTo_ticks_of_armed hp.running hp.dtConfigured (h.running.trans hsome)
    (h.fresh hsome) hl hp.quiet hp.eager hd.le (h.inputs.trans (risesEvery_of_lt he))
    (fun j hj w hout hnow => h.onWaveform_before_write hs he hj hout hnow)
    fun j hj hge w hout hnow => hs.onWaveform he hj.le (by rw [hnow, h.now])
      (hout.trans (waveform_after_write hge hj.le).symm)⟩
  exact ⟨withClockwork_trans h.frame rfl, rfl, h.now_add, h.count, rfl, rfl, rfl, h.tally⟩

/-- Where an edge armed nothing, the pin stays as it is. -/
theorem AtEdge.beforeEdge_of_no_intent (hs : CycleStart s d rest) (he : e < 20)
    (h : AtEdge s d rest e v) (hl : v.pol = none)
    (hsame : levelAtEdge s.activeThreshold.val (e + 1) = levelAtEdge s.activeThreshold.val e) :
    ∃ u, BeforeEdge s d rest e u ∧ QuietlyTo (OnWaveform s d) v u := by
  have hp := hs.poised.of_frame h.frame
  have hstopped : v.dtRunning = false := by rw [h.running, hl]; rfl
  refine ⟨_, ?_, quietlyTo_ticks_of_stopped hstopped hp.quiet
    (h.inputs.trans (risesEvery_of_lt he)) fun j hj w hout hnow => ?_⟩
  · exact ⟨withClockwork_trans h.frame rfl, rfl, h.now_add, h.count, hl, hstopped,
      h.out.trans hsame.symm, h.tally⟩
  · rcases Nat.lt_or_ge j 2000 with hlt | hge
    · exact h.onWaveform_before_write hs he hlt hout hnow
    · refine hs.onWaveform he hj.le (by rw [hnow, h.now]) ?_
      rw [waveform_after_write hge hj.le, hsame, hout, h.out]

theorem AtEdge.beforeEdge (hs : CycleStart s d rest) (he : e < 20) (h : AtEdge s d rest e v) :
    ∃ u, BeforeEdge s d rest e u ∧ QuietlyTo (OnWaveform s d) v u := by
  rcases intentAtEdge_cases hs.flipInside.1 e with hl | ⟨hl, hsame⟩
  · exact h.beforeEdge_of_intent hs he (h.intent.trans hl)
  · exact h.beforeEdge_of_no_intent hs he (h.intent.trans hl) hsame

theorem BeforeEdge.onWaveform (hs : CycleStart s d rest) (he : e < 20)
    (h : BeforeEdge s d rest e u) : OnWaveform s d u := by
  obtain ⟨hd, -⟩ := hs.spacing
  refine hs.onWaveform he le_rfl ?_ (h.out.trans (waveform_after_write hd.le le_rfl).symm)
  rw [h.now, BitVec.add_assoc, ← BitVec.ofNat_add, Nat.succ_mul]

/-- The FLIP edge arms the timer for LOW. -/
theorem BeforeEdge.atEdge_of_flip (hs : CycleStart s d rest)
    (hact : s.activeThreshold.val = e + 1) (h : BeforeEdge s d rest e u) :
    ∃ v, AtEdge s d rest (e + 1) v ∧ QuietlyTo (OnWaveform s d) u v := by
  have he : e < 20 := by have := hs.flipInside; omega
  have hp := hs.poised.of_frame h.frame
  have hcount : s.wpFlipVal.val = u.ecCount.val + 1 := by rw [hs.flipActive, hact, h.count]
  obtain ⟨hvalid, hval, hactive, -, -⟩ := fields_of_frame h.frame
  have htally : u.triggerCount = s.triggerCount := by
    rw [h.tally, if_neg (by omega)]
    exact BitVec.add_zero _
  refine ⟨_, ?_, hp.flipEdge h.inputs hcount (hvalid.trans hs.flipValid) hval
    (hs.flipActive.trans (congrArg Fin.val hactive.symm)) h.intent (h.onWaveform hs he)⟩
  exact
    { frame := withClockwork_trans h.frame rfl
      inputs := rfl
      now := h.now
      count := hs.flipActive.trans hact
      intent := by simp [intentAtEdge, hact]
      running := rfl
      fresh := fun _ => rfl
      out := h.out
      tally := by rw [htally, if_pos hact.le] }

/-- An edge below the top on no FLIP point counts. -/
theorem BeforeEdge.atEdge_of_no_flip (hs : CycleStart s d rest) (he : e + 1 < 20)
    (hact : s.activeThreshold.val ≠ e + 1) (h : BeforeEdge s d rest e u) :
    ∃ v, AtEdge s d rest (e + 1) v ∧ QuietlyTo (OnWaveform s d) u v := by
  have hp := hs.poised.of_frame h.frame
  obtain ⟨c, hc⟩ : ∃ c : Count, c.val = e + 1 := ⟨⟨_, he⟩, rfl⟩
  have hcount : c.val = u.ecCount.val + 1 := by rw [hc, h.count]
  obtain ⟨-, hval, -, -, -⟩ := fields_of_frame h.frame
  have hno : u.wpFlipVal ≠ c := by
    rw [hval]
    rintro rfl
    exact hact (hs.flipActive.symm.trans hc)
  refine ⟨_, ?_, hp.countEdge h.inputs hcount hno (h.onWaveform hs (by omega))⟩
  exact
    { frame := withClockwork_trans h.frame rfl
      inputs := rfl
      now := h.now
      count := hc
      intent := h.intent.trans (by simp [intentAtEdge, hact.symm])
      running := by rw [h.stopped, h.intent]; rfl
      fresh := fun hsome => by simp [h.intent] at hsome
      out := h.out
      tally := by
        have hpast : s.activeThreshold.val ≤ e + 1 ↔ s.activeThreshold.val ≤ e := by omega
        simp only [h.tally, hpast] }

theorem BeforeEdge.atEdge (hs : CycleStart s d rest) (he : e + 1 < 20)
    (h : BeforeEdge s d rest e u) :
    ∃ v, AtEdge s d rest (e + 1) v ∧ QuietlyTo (OnWaveform s d) u v := by
  by_cases hact : s.activeThreshold.val = e + 1
  · exact h.atEdge_of_flip hs hact
  · exact h.atEdge_of_no_flip hs he hact

/-- Every edge of the cycle below the top is reached, by induction on the edges. -/
theorem CycleStart.exists_atEdge (hs : CycleStart s d rest) (he : e < 20) :
    ∃ v, AtEdge s d rest e v ∧ QuietlyTo (OnWaveform s d) s v := by
  induction e with
  | zero => exact ⟨s, hs.atEdge, .refl _ s⟩
  | succ e ih =>
    obtain ⟨v, hv, hsv⟩ := ih (by omega)
    obtain ⟨u, hu, hvu⟩ := hv.beforeEdge hs (by omega)
    obtain ⟨w, hw, huw⟩ := hu.atEdge hs he
    exact ⟨w, hw, (hsv.trans hvu).trans huw⟩

/-! ### The boundary at the end -/

/-- The state that the twentieth edge and its handler leave. -/
def cycleEnd (u : State) (rest : List Input) : State :=
  afterFull u.activeThreshold { u with inputs := rest }

theorem CycleStart.exists_cycleEnd (hs : CycleStart s d rest) :
    ∃ u, BeforeEdge s d rest 19 u ∧ QuietlyTo (OnWaveform s d) s (cycleEnd u rest) := by
  obtain ⟨v, hv, hsv⟩ := hs.exists_atEdge (e := 19) (by decide)
  obtain ⟨u, hu, hvu⟩ := hv.beforeEdge hs (by decide)
  have hp := hs.poised.of_frame hu.frame
  exact ⟨u, hu, (hsv.trans hvu).trans
    (hp.boundaryEdge hu.inputs hu.count (hu.onWaveform hs (by decide)))⟩

theorem Poised.cycleEnd_quiet (h : Poised u) (rest : List Input) : Quiet (cycleEnd u rest) := by
  obtain ⟨-, hflip, -⟩ := latches_of_quiet h.quiet h.running
  exact (handlerEnabled_eq_false_iff _).2 fun _ => ⟨rfl, hflip, rfl⟩

end

/-! ### Past the end -/

section
variable {s t u v : State}

/-- A step's own effect is no matter of the environment's list. -/
theorem fire_inputs {l : Label} (h : fire l s = .next t) : t.inputs = s.inputs := by
  cases l with
  | wpService =>
    cases h
    exact (wpService_pinAndTally s).inputs
  | dtService =>
    cases h
    obtain ⟨-, -, -, hin, -⟩ := dtService_frame s
    exact hin
  | input e =>
    rcases fire_input_pinAndTally h with hk | ⟨-, hin, -⟩ | ⟨-, -, hin, -⟩
    · exact hk.inputs
    · exact hin
    · exact hin

theorem step_inputs_le (h : step s = .next t) : t.inputs.length ≤ s.inputs.length := by
  rcases step_cases h with ⟨-, rfl⟩ | ⟨l, -, hfire⟩
  · simp
  · rw [fire_inputs hfire]
    cases l <;> simp [consume]

theorem RunsTo.inputs_le {k : Nat} (h : RunsTo k s t) : t.inputs.length ≤ s.inputs.length := by
  induction k generalizing s with
  | zero =>
    obtain rfl : s = t := Host.Outcome.next.inj h
    exact le_rfl
  | succ k ih =>
    obtain ⟨r, hr, hrt⟩ := runsTo_succ_iff.1 h
    exact (ih hrt).trans (step_inputs_le hr)

/-- From a quiet state the run stays there or takes a step of the environment from its list. -/
theorem RunsTo.eq_or_inputs_lt {k : Nat} (hq : Quiet u) (h : RunsTo k u v) :
    v = u ∨ v.inputs.length < u.inputs.length := by
  induction k with
  | zero => exact .inl (Host.Outcome.next.inj h).symm
  | succ k ih =>
    obtain ⟨r, hr, hrv⟩ := runsTo_succ_iff.1 h
    cases hin : u.inputs with
    | nil =>
      have hl : nextLabel? u = none := by rw [nextLabel?_of_quiet hq, hin]; rfl
      rw [step_of_noLabel hl, spendDeferral_of_quiet hq] at hr
      cases hr
      exact hin ▸ ih hrv
    | cons e rest =>
      rw [step_input_of_quiet hq hin] at hr
      have hle := hrv.inputs_le
      rw [fire_inputs hr] at hle
      exact .inr (Nat.lt_succ_of_le hle)

end

/-- Settles O38: the cycle goes from edge to edge on the waveform (`CycleStart.exists_cycleEnd`), and
past its end no state has the list still to come that the statement asks for. -/
theorem waveformOfOneCycle : Obligations.WaveformOfOneCycle := by
  intro s d rest hi hq he hr hv hact hp h0 hpol hrun hcnt hout hd hsmall hin
  obtain ⟨hec, hdt, hfull⟩ := hi.runningConfigured hr
  have hs : CycleStart s d rest :=
    { poised := ⟨hq, he, hr, hec, hdt, hfull, hp⟩
      flipValid := hv
      flipActive := hact
      flipInside := hact ▸ hi.flipInRange hv
      count := h0
      intent := hpol
      armed := ⟨hrun, hcnt⟩
      out := hout
      spacing := ⟨hd, hsmall⟩
      inputs := hin }
  obtain ⟨u, hu, k, hk, hwave⟩ := hs.exists_cycleEnd
  have hpu := hs.poised.of_frame hu.frame
  have hquiet := hpu.cycleEnd_quiet rest
  obtain ⟨hpos, hlt⟩ := hs.flipInside
  constructor
  · intro j v ahead hj hqv hahead
    suffices h : OnWaveform s d v from h
    rcases Nat.lt_or_ge j k with hbefore | hge
    · exact hwave j hbefore v hj hqv
    · obtain ⟨m, rfl⟩ := Nat.exists_eq_add_of_le hge
      rcases (hk.rest hj).eq_or_inputs_lt hquiet with rfl | hshort
      · have hend : OnWaveform s d u := hu.onWaveform hs (by decide)
        exact hend
      · rw [hahead, List.length_append] at hshort
        exact absurd hshort (Nat.not_lt.2 (Nat.le_add_left _ _))
  · obtain ⟨hvalid, hval, hactive, hcycles, hfault⟩ := fields_of_frame hu.frame
    have hlow : u.out = .low := hu.out.trans (if_neg (by omega))
    have hlevel : ¬ u.activeThreshold.val = 0 := by rw [hactive]; exact hpos.ne'
    have htally : u.triggerCount = s.triggerCount + 1 :=
      hu.tally.trans (congrArg _ (if_pos (Nat.le_of_lt_succ hlt)))
    refine ⟨k, cycleEnd u rest, hk, rfl, hquiet, hu.now, hpu.running, hvalid.trans hv, hval,
      hactive, rfl, congrArg some (if_neg hlevel), rfl, rfl, hlow, congrArg (· + 1) hcycles, ?_, ?_⟩
    · rw [cycleEnd, afterFull_triggerCount, htally, BitVec.add_assoc]
      rfl
    · rw [cycleEnd, afterFull_faultArmSupersede, hu.intent, hfault]
      exact Bool.or_false _

end Sys2Proof.Machine

/-! ## The statistics, the notification and the status (O39 to O42) -/

namespace Sys2Proof.Machine

/-! ### The counter reads (R180 to R182) -/

/-- Settles O39: each of the three is `respond` with its counter. -/
theorem counterReadsReport : Obligations.CounterReadsReport :=
  ⟨by decide, by decide, by decide, fun _ => ⟨rfl, rfl, rfl⟩⟩

/-! ### The frequency (R183, R184) -/

theorem sat32_toNat (x : Nat) : (sat32 x).toNat = min x (2 ^ 32 - 1) := by
  have hlt : min x (2 ^ 32 - 1) < 2 ^ 32 := by omega
  rw [sat32, BitVec.toNat_ofNat, Nat.mod_eq_of_lt hlt]

theorem freqMilliHz_toNat_of_zero {t : BitVec 32} (h : t = 0) :
    (freqMilliHz t).toNat = 2 ^ 32 - 1 := by
  rw [freqMilliHz, if_pos h, BitVec.toNat_allOnes]

theorem freqMilliHz_toNat_of_ne_zero {t : BitVec 32} (h : t ≠ 0) :
    (freqMilliHz t).toNat = min (Config.N * 500000000 / t.toNat) (2 ^ 32 - 1) := by
  rw [freqMilliHz, if_neg h, sat32_toNat]

theorem exec_getFrequency_of_valid {s : State} (h : s.lastCycleValid = true) :
    exec .getFrequency s = .next (respond .ok (freqMilliHz s.lastCycleTimeUs) s) :=
  congrArg Host.Outcome.next (if_pos h)

/-- Settles O40: the answer is `freqMilliHz` of the cycle time, whose division is over the naturals
and whose saturation keeps the word from wrapping. -/
theorem frequencyFollowsTheFormula : Obligations.FrequencyFollowsTheFormula :=
  ⟨by decide, fun s => ⟨exec_getFrequency_of_invalid, fun hv =>
    ⟨freqMilliHz s.lastCycleTimeUs, exec_getFrequency_of_valid hv, freqMilliHz_toNat_of_zero,
      freqMilliHz_toNat_of_ne_zero⟩⟩⟩

/-! ### The one-shot notification (R185) -/

theorem exec_takeApplyResult_of_none {s : State} (h : s.applyEventPending = false) :
    exec .takeApplyResult s = .next (respond .notValid 0 s) :=
  congrArg Host.Outcome.next (if_neg (Bool.eq_false_iff.1 h))

theorem exec_takeApplyResult_of_pending {s : State} (h : s.applyEventPending = true) :
    exec .takeApplyResult s =
      .next (respond .ok (s.lastApplyResult.code.setWidth 32)
        { s with applyEventPending := false, lastApplyResult := .none }) :=
  congrArg Host.Outcome.next (if_pos h)

/-- Settles O41: the state after the first call has no notification, so a second one finds none. -/
theorem applyResultIsTakenOnce : Obligations.ApplyResultIsTakenOnce := by
  refine ⟨by decide, fun s => ⟨exec_takeApplyResult_of_none, fun hp => ?_⟩⟩
  have hcode {r : ApplyResult} (h : s.lastApplyResult = r) :
      s.lastApplyResult.code.setWidth 32 = r.code.setWidth 32 := by rw [h]
  exact ⟨_, _, exec_takeApplyResult_of_pending hp, rfl, hcode, hcode, hcode, hcode, hcode,
    exec_takeApplyResult_of_none rfl⟩

/-! ### The STATUS word (R186, R187) -/

/-- R187's table: each field of a word in its bits, the enumerated ones by their codes. -/
structure ShowsStatus (s : State) (w : Word) : Prop where
  eng : w.extractLsb' 0 2 = s.engState.code
  phase : w.getLsbD 2 = pastFlip s
  out : w.extractLsb' 3 1 = s.out.code
  pol : w.extractLsb' 4 2 = intentCode s.pol
  dtRun : w.getLsbD 6 = s.dtRunning
  dtEvt : w.getLsbD 7 = s.dtEvtPending
  flipValid : w.getLsbD 8 = s.wpFlipValid
  flipVal : w.extractLsb' 9 5 = flipValField s
  fullValid : w.getLsbD 14 = s.wpFullValid
  evtFlip : w.getLsbD 15 = s.evtFlipPending
  evtFull : w.getLsbD 16 = s.evtFullPending
  pendValid : w.getLsbD 17 = s.pendingValid
  pendVal : w.extractLsb' 18 5 = pendValField s
  applyEvt : w.getLsbD 23 = s.applyEventPending
  applyRes : w.extractLsb' 24 3 = s.lastApplyResult.code
  overrun : w.getLsbD 27 = s.faultWpOverrun
  supersede : w.getLsbD 28 = s.faultArmSupersede
  unrestored : w.getLsbD 29 = s.faultFlipUnrestored
  ecCfg : w.getLsbD 30 = s.ecConfigured
  dtCfg : w.getLsbD 31 = s.dtConfigured

theorem getLsbD_append_above {m n i : Nat} {x : BitVec m} {y : BitVec n} (h : n ≤ i) :
    (x ++ y).getLsbD i = x.getLsbD (i - n) := by
  rw [BitVec.getLsbD_append, if_neg (Nat.not_lt.2 h)]

theorem getLsbD_ofBool_zero {b : Bool} : (BitVec.ofBool b).getLsbD 0 = b := by
  cases b <;> rfl

theorem getLsbD_append_flag {m : Nat} {x : BitVec m} {b : Bool} :
    (x ++ BitVec.ofBool b).getLsbD 0 = b := by
  rw [BitVec.getLsbD_append, if_pos Nat.one_pos, getLsbD_ofBool_zero]

/-- A field is reached by taking the fields below it off the right end of the concatenation. -/
theorem statusWord_shows (s : State) : ShowsStatus s (statusWord s) := by
  constructor <;>
    simp only [statusWord, getLsbD_append_above, getLsbD_append_flag, getLsbD_ofBool_zero,
      BitVec.extractLsb'_append_eq_of_le, BitVec.extractLsb'_append_eq_right, Nat.reduceSub,
      Nat.reduceLeDiff, Nat.le_refl]

/-- `OUT` is one bit wide, so the code of the pin's level is the bit. -/
theorem ShowsStatus.getLsbD_out {s : State} {w : Word} (h : ShowsStatus s w) :
    w.getLsbD 3 = decide (s.out = .high) := by
  rw [BitVec.getLsbD_eq_extractLsb', h.out]
  cases s.out <;> rfl

/-- A count shown only while it is valid is read back from its five bits. -/
theorem gatedCount_toNat {v : Bool} {n : Nat} (h : n < 32) :
    (if v then BitVec.ofNat 5 n else 0).toNat = if v = true then n else 0 := by
  rw [apply_ite BitVec.toNat, BitVec.toNat_ofNat, Nat.mod_eq_of_lt h]
  rfl

theorem flipValField_toNat (s : State) :
    (flipValField s).toNat = if s.wpFlipValid = true then s.wpFlipVal.val else 0 :=
  gatedCount_toNat (s.wpFlipVal.isLt.trans (by decide))

theorem pendValField_toNat (s : State) :
    (pendValField s).toNat = if s.pendingValid = true then s.pendingThreshold.val else 0 :=
  gatedCount_toNat (s.pendingThreshold.isLt.trans (by decide))

/-- Settles O42: the answer is `statusWord`, which shows R187's table (`statusWord_shows`); what is
left is to read the code of each enumerated value and the two counts. -/
theorem statusWordHoldsEveryField : Obligations.StatusWordHoldsEveryField := by
  refine ⟨by decide, fun s => ⟨statusWord s, rfl, ?_⟩⟩
  have hw := statusWord_shows s
  have heng {e : EngState} (h : s.engState = e) : (statusWord s).extractLsb' 0 2 = e.code :=
    h ▸ hw.eng
  have hpol {p : Option Level} (h : s.pol = p) :
      (statusWord s).extractLsb' 4 2 = intentCode p := h ▸ hw.pol
  have hres {r : ApplyResult} (h : s.lastApplyResult = r) :
      (statusWord s).extractLsb' 24 3 = r.code := h ▸ hw.applyRes
  have hflip := (congrArg BitVec.toNat hw.flipVal).trans (flipValField_toNat s)
  have hpend := (congrArg BitVec.toNat hw.pendVal).trans (pendValField_toNat s)
  exact ⟨heng, heng, heng, hw.phase, hw.getLsbD_out, hpol, hpol, hpol, hw.dtRun, hw.dtEvt,
    hw.flipValid, hflip, hw.fullValid, hw.evtFlip, hw.evtFull, hw.pendValid, hpend, hw.applyEvt,
    hres, hres, hres, hres, hres, hw.overrun, hw.supersede, hw.unrestored, hw.ecCfg, hw.dtCfg⟩

end Sys2Proof.Machine

/-! ## Priority, refusal and ownership of the fields (O32, O45 to O48, O51) -/

namespace Sys2Proof.Machine

/-! ### Which step comes next (R206, R207) -/

section
variable {s : State}

theorem dueHandler?_of_expiry (hr : s.engState = .running) (hd : s.dtEvtPending = true) :
    dueHandler? s = some .dtService := by
  simp [dueHandler?, dtEnabled, hr, hd]

theorem dueHandler?_of_watchPoint (hr : s.engState = .running) (hd : s.dtEvtPending = false)
    (hw : s.evtFlipPending = true ∨ s.evtFullPending = true) :
    dueHandler? s = some .wpService := by
  simp [dueHandler?, dtEnabled, wpEnabled, hr, hd, hw]

theorem nextLabel?_of_due {l : Label} (hdue : dueHandler? s = some l)
    (hl : handlerLags s = false) : nextLabel? s = some l := by
  simp [nextLabel?, hdue, hl]

end

/-- Settles O32: the due handler is next unless it lags (`nextLabel?_of_due`, `nextLabel?_of_quiet`,
`nextLabel?_of_lags`); the latches that `WP_SERVICE` leaves are in `wpService_frame`. -/
theorem handlersRunInPriorityOrder : Obligations.HandlersRunInPriorityOrder := by
  intro s
  refine ⟨fun hr hd hl => ?_, fun hr hd hw hl => ?_, fun h => ?_, fun t hnext hflip h => ?_⟩
  · exact nextLabel?_of_due (dueHandler?_of_expiry hr hd) hl
  · exact nextLabel?_of_due (dueHandler?_of_watchPoint hr hd hw) hl
  · rcases h with hn | hclear | hl
    · exact nextLabel?_of_quiet ((quiet_iff s).2 fun hr => absurd hr hn)
    · exact nextLabel?_of_quiet ((quiet_iff s).2 fun _ => (latchesSet_eq_zero_iff s).2 hclear)
    · exact nextLabel?_of_lags hl
  · obtain ⟨d, -, hstep⟩ := exists_step_wpService_eq hnext
    obtain rfl := Host.Outcome.next.inj (hstep.symm.trans h)
    obtain ⟨-, -, -, hcleared, hkept⟩ := wpService_frame { s with deferrals := d }
    exact ⟨hcleared, hkept.trans (by simp [hflip])⟩

/-! ### Which commands are refused (R215) -/

/-- Settles O45: each of the seven is `directCommand` of its primitive (`directCommand_refused`). -/
theorem directCommandsRefusedWhileRunning : Obligations.DirectCommandsRefusedWhileRunning := by
  intro s i hr hi
  have refused (p : State → Status × State) :
      (.next (directCommand p s) : Host.Outcome State Fault Refusal) =
        .next { s with respStatus := .invalidState, respData := 0 } :=
    congrArg _ (directCommand_refused hr)
  rcases hi with ⟨v, rfl | rfl | rfl⟩ | hi
  · exact refused _
  · exact refused _
  · exact refused _
  · simp only [List.mem_cons, List.not_mem_nil, or_false] at hi
    rcases hi with rfl | rfl | rfl | rfl <;> exact refused _

/-! ### Nothing stops the block (R200) -/

theorem exists_exec_eq_next (i : Instr) (s : State) : ∃ t, exec i s = .next t := by
  cases i <;> exact ⟨_, rfl⟩

theorem exists_command_eq_next (w : Word) (s : State) : ∃ t, command w s = .next t := by
  rcases command_cases w s with ⟨_, -, e⟩ | ⟨i, -, e⟩ <;> rw [e]
  · exact ⟨_, rfl⟩
  · exact exists_exec_eq_next i s

theorem exists_fire_eq_next (l : Label) (s : State) : ∃ t, fire l s = .next t := by
  cases l with
  | wpService | dtService => exact ⟨_, rfl⟩
  | input e =>
    cases e with
    | cmd w => exact exists_command_eq_next w s
    | rise | fall | tick | reset => exact ⟨_, rfl⟩

/-- Settles O51: the step of every label answers a next state, and so does the absence of one. -/
theorem everyStepAnswersNext : Obligations.EveryStepAnswersNext := by
  intro s
  cases hl : nextLabel? s with
  | none => exact ⟨_, step_of_noLabel hl⟩
  | some l => rw [step_of_nextLabel hl]; exact exists_fire_eq_next l _

/-! ### What the step of a label may write (R214)

A frame `t = { s with f := t.f, … }` lists the fields `f` that a step may write: the state after it is
the one before it with those fields as they came out. -/

/-- The service of a FULL event writes at most the fields listed, and keeps a fault flag that is set
(R158 to R160, R212). -/
structure FullServiceWrites (s t : State) : Prop where
  frame : t =
    { s with
      evtFullPending := t.evtFullPending, triggerCount := t.triggerCount
      lastCycleTimeUs := t.lastCycleTimeUs, lastCycleValid := t.lastCycleValid
      prevFullTs := t.prevFullTs, prevFullValid := t.prevFullValid
      cycleCount := t.cycleCount, ecCount := t.ecCount
      wpFlipValid := t.wpFlipValid, wpFlipVal := t.wpFlipVal
      activeThreshold := t.activeThreshold, pendingValid := t.pendingValid
      lastApplyResult := t.lastApplyResult, applyEventPending := t.applyEventPending
      pol := t.pol, dtRunning := t.dtRunning, dtCount := t.dtCount
      dtEvtPending := t.dtEvtPending, faultArmSupersede := t.faultArmSupersede
      faultFlipUnrestored := t.faultFlipUnrestored
      draws := t.draws, drawCount := t.drawCount }
  supersedeSticky : s.faultArmSupersede = true → t.faultArmSupersede = true
  unrestoredSticky : s.faultFlipUnrestored = true → t.faultFlipUnrestored = true

theorem FullServiceWrites.trans {s t u : State} (h : FullServiceWrites s t)
    (h' : FullServiceWrites t u) : FullServiceWrites s u where
  frame := by
    have e := h'.frame
    rw [h.frame] at e
    exact e
  supersedeSticky := h'.supersedeSticky ∘ h.supersedeSticky
  unrestoredSticky := h'.unrestoredSticky ∘ h.unrestoredSticky

/-- R214's table read by its writers, `RESET` left out: each constructor names the label of a step and
the engine state it needs, and gives its frame; for a writer of a fault flag also that it keeps the flag
where it is set (R212). -/
inductive Writes (l : Label) (s t : State) : Prop where
  /-- `FALL`, a read, a refused command, an illegal word. -/
  | response (h : t = { s with respStatus := t.respStatus, respData := t.respData })
  | rise (hl : l = .input .rise)
      (h : t =
        { s with
          ecCount := t.ecCount, evtFlipPending := t.evtFlipPending, evtFlipVal := t.evtFlipVal
          evtFullPending := t.evtFullPending, faultWpOverrun := t.faultWpOverrun })
      (sticky : s.faultWpOverrun = true → t.faultWpOverrun = true)
  | tick (hl : l = .input .tick)
      (h : t =
        { s with
          now := t.now, dtRunning := t.dtRunning, dtCount := t.dtCount
          dtEvtPending := t.dtEvtPending })
  | dtService (hl : l = .dtService)
      (h : t =
        { s with
          dtRunning := t.dtRunning, dtEvtPending := t.dtEvtPending, pol := t.pol, out := t.out })
  /-- The service of a FLIP event. -/
  | flipService (hl : l = .wpService)
      (h : t =
        { s with
          evtFlipPending := t.evtFlipPending, triggerCount := t.triggerCount, pol := t.pol
          dtRunning := t.dtRunning, dtCount := t.dtCount, dtEvtPending := t.dtEvtPending
          faultArmSupersede := t.faultArmSupersede })
      (sticky : s.faultArmSupersede = true → t.faultArmSupersede = true)
  /-- The service of a FULL event. -/
  | fullService (hl : l = .wpService) (hflip : s.evtFlipPending = false)
      (h : FullServiceWrites s t)
  | configureCounter (hl : l.configuresCounter) (hn : s.engState ≠ .running)
      (h : t =
        { s with
          ecConfigured := t.ecConfigured, ecGlitchNs := t.ecGlitchNs, ecCount := t.ecCount
          wpFlipValid := t.wpFlipValid, wpFullValid := t.wpFullValid
          evtFlipPending := t.evtFlipPending, evtFullPending := t.evtFullPending
          draws := t.draws, drawCount := t.drawCount
          respStatus := t.respStatus, respData := t.respData })
  /-- The FLIP slot moved by a direct command. -/
  | moveFlip (hl : ∃ v, l.movesWatchPoint v) (hn : s.engState ≠ .running)
      (h : t =
        { s with
          wpFlipValid := t.wpFlipValid, wpFlipVal := t.wpFlipVal
          draws := t.draws, drawCount := t.drawCount
          respStatus := t.respStatus, respData := t.respData })
  /-- The FULL slot moved by a direct command. -/
  | moveFull (hl : l.movesWatchPoint 20) (hn : s.engState ≠ .running)
      (h : t =
        { s with
          wpFullValid := t.wpFullValid, draws := t.draws, drawCount := t.drawCount
          respStatus := t.respStatus, respData := t.respData })
  | clearCounter (hl : l.runs .ecClear) (hn : s.engState ≠ .running)
      (h : t =
        { s with ecCount := t.ecCount, respStatus := t.respStatus, respData := t.respData })
  | configureTimer (hl : l.runs .dtConfigure) (hn : s.engState ≠ .running)
      (h : t =
        { s with
          dtConfigured := t.dtConfigured, dtRunning := t.dtRunning, dtCount := t.dtCount
          dtEvtPending := t.dtEvtPending, draws := t.draws, drawCount := t.drawCount
          respStatus := t.respStatus, respData := t.respData })
  | startTimer (hl : l.runs .dtResetAndStart) (hn : s.engState ≠ .running)
      (h : t =
        { s with
          dtRunning := t.dtRunning, dtCount := t.dtCount, dtEvtPending := t.dtEvtPending
          respStatus := t.respStatus, respData := t.respData })
  | stopTimer (hl : l.runs .dtStop) (hn : s.engState ≠ .running)
      (h : t =
        { s with dtRunning := t.dtRunning, respStatus := t.respStatus, respData := t.respData })
  /-- An accepted `ENG_START`, whether its set-up succeeds or fails. -/
  | engStart (hl : l.runs .engStart) (hidle : s.engState = .idle)
      (h : t =
        { s with
          ecConfigured := t.ecConfigured, ecGlitchNs := t.ecGlitchNs, ecCount := t.ecCount
          wpFlipValid := t.wpFlipValid, wpFlipVal := t.wpFlipVal, wpFullValid := t.wpFullValid
          evtFlipPending := t.evtFlipPending, evtFullPending := t.evtFullPending
          dtConfigured := t.dtConfigured, dtRunning := t.dtRunning, dtCount := t.dtCount
          dtEvtPending := t.dtEvtPending, engState := t.engState
          triggerCount := t.triggerCount, cycleCount := t.cycleCount
          lastCycleTimeUs := t.lastCycleTimeUs, lastCycleValid := t.lastCycleValid
          prevFullValid := t.prevFullValid, pol := t.pol, pendingValid := t.pendingValid
          lastApplyResult := t.lastApplyResult, applyEventPending := t.applyEventPending
          draws := t.draws, drawCount := t.drawCount
          respStatus := t.respStatus, respData := t.respData })
  /-- `SET_DUTY_CYCLE` stored directly. -/
  | setActive (hl : ∃ v, l.runs (.setDutyCycle v)) (hn : s.engState ≠ .running)
      (h : t =
        { s with
          activeThreshold := t.activeThreshold
          respStatus := t.respStatus, respData := t.respData })
  /-- `SET_DUTY_CYCLE` recorded, or withdrawing what is recorded. -/
  | setPending (hl : ∃ v, l.runs (.setDutyCycle v)) (hr : s.engState = .running)
      (h : t =
        { s with
          pendingValid := t.pendingValid, pendingThreshold := t.pendingThreshold
          respStatus := t.respStatus, respData := t.respData })
  | takeApplyResult (hl : l.runs .takeApplyResult)
      (h : t =
        { s with
          lastApplyResult := t.lastApplyResult, applyEventPending := t.applyEventPending
          respStatus := t.respStatus, respData := t.respData })

/-! #### The commands -/

section
variable {l : Label} {s t : State}

theorem directCommand_writes {p : State → Status × State}
    (hp : s.engState ≠ .running → Writes l s (respond (p s).1 0 (p s).2)) :
    Writes l s (directCommand p s) := by
  rcases directCommand_cases p s with ⟨-, e⟩ | ⟨hn, e⟩ <;> rw [e]
  · exact .response rfl
  · exact hp hn

theorem ecConfigure_writes (hl : l.configuresCounter) (g : Arg) :
    Writes l s (directCommand (ecConfigure g) s) :=
  directCommand_writes fun hn => .configureCounter hl hn <| by
    rcases ecConfigure_cases g s with ⟨-, e⟩ | ⟨-, e⟩ <;> rw [e] <;> rfl

theorem ecAddWp_writes {v : Nat} (hl : l.runs (.ecAddWp v)) :
    Writes l s (directCommand (ecAddWp v) s) :=
  directCommand_writes fun hn => by
    rcases ecAddWp_cases v s with ⟨-, e⟩ | ⟨rfl, -, -, -, e⟩ | ⟨_, -, -, -, -, -, e⟩ <;> rw [e]
    · exact .moveFlip ⟨v, .inl hl⟩ hn rfl
    · exact .moveFull (.inl hl) hn rfl
    · exact .moveFlip ⟨v, .inl hl⟩ hn rfl

theorem ecRemoveWp_writes {v : Nat} (hl : l.runs (.ecRemoveWp v)) :
    Writes l s (directCommand (ecRemoveWp v) s) :=
  directCommand_writes fun hn => by
    rcases ecRemoveWp_cases v s with ⟨-, e⟩ | ⟨rfl, -, -, -, e⟩ | ⟨-, -, -, -, -, e⟩ <;> rw [e]
    · exact .moveFlip ⟨v, .inr hl⟩ hn rfl
    · exact .moveFull (.inr hl) hn rfl
    · exact .moveFlip ⟨v, .inr hl⟩ hn rfl

theorem ecClear_writes (hl : l.runs .ecClear) : Writes l s (directCommand ecClear s) :=
  directCommand_writes fun hn => .clearCounter hl hn <| by
    rcases ecClear_cases s with ⟨-, e⟩ | ⟨-, e⟩ <;> rw [e] <;> rfl

theorem dtConfigure_writes (hl : l.runs .dtConfigure) : Writes l s (directCommand dtConfigure s) :=
  directCommand_writes fun hn => .configureTimer hl hn <| by
    rcases dtConfigure_cases s with ⟨-, e⟩ | ⟨-, e⟩ <;> rw [e] <;> rfl

theorem dtResetAndStart_writes (hl : l.runs .dtResetAndStart) :
    Writes l s (directCommand dtResetAndStart s) :=
  directCommand_writes fun hn => .startTimer hl hn <| by
    rcases dtResetAndStart_cases s with ⟨-, e⟩ | ⟨-, e⟩ <;> rw [e] <;> rfl

theorem dtStop_writes (hl : l.runs .dtStop) : Writes l s (directCommand dtStop s) :=
  directCommand_writes fun hn => .stopTimer hl hn <| by
    rcases dtStop_cases s with ⟨-, e⟩ | ⟨-, e⟩ <;> rw [e] <;> rfl

theorem execEngStart_writes (hl : l.runs .engStart) (h : execEngStart s = .next t) :
    Writes l s t := by
  rcases execEngStart_cases h with ⟨-, rfl⟩ | ⟨hidle, hok, rfl⟩ | ⟨hidle, hno, rfl⟩
  · exact .response rfl
  · rcases engSetup_cases s with ⟨hno, -⟩ | ⟨-, _, _, _, -, e⟩
    · exact absurd hok hno
    · rw [e]
      exact .engStart hl hidle rfl
  · rcases engSetup_cases s with ⟨-, _, _, _, _, e⟩ | ⟨hok, -⟩
    · rw [e]
      exact .engStart hl hidle rfl
    · exact absurd hok hno

theorem request_writes {v : Int} (hl : l.runs (.setDutyCycle v)) (x : Threshold) :
    Writes l s (respond .ok 0 (request x s)) := by
  rcases request_cases x s with ⟨hn, e⟩ | ⟨hr, -, e⟩ | ⟨hr, -, e⟩ <;> rw [e]
  · exact .setActive ⟨v, hl⟩ hn rfl
  · exact .setPending ⟨v, hl⟩ hr rfl
  · exact .setPending ⟨v, hl⟩ hr rfl

theorem exec_writes {i : Instr} (hl : l.runs i) (h : exec i s = .next t) : Writes l s t := by
  cases i with
  | ecConfigure g => cases h; exact ecConfigure_writes ⟨g, hl⟩ _
  | ecAddWp v => cases h; exact ecAddWp_writes hl
  | ecRemoveWp v => cases h; exact ecRemoveWp_writes hl
  | ecClear => cases h; exact ecClear_writes hl
  | dtConfigure => cases h; exact dtConfigure_writes hl
  | dtResetAndStart => cases h; exact dtResetAndStart_writes hl
  | dtStop => cases h; exact dtStop_writes hl
  | engStart => exact execEngStart_writes hl h
  | setDutyCycle v =>
    cases h
    split
    · exact .response rfl
    · exact request_writes hl _
  | takeApplyResult =>
    cases h
    split
    · exact .takeApplyResult hl rfl
    · exact .response rfl
  | ecGetCount | getFrequency =>
    cases h
    split <;> exact .response rfl
  | getDutyCycle | getTriggerCount | getCycleCount | getLastCycleTime | getStatus =>
    cases h
    exact .response rfl

theorem command_writes {w : Word} (h : command w s = .next t) :
    Writes (.input (.cmd w)) s t := by
  rcases command_cases w s with ⟨_, -, e⟩ | ⟨i, hw, e⟩ <;> rw [e] at h
  · cases h
    exact .response rfl
  · exact exec_writes ⟨w, rfl, hw⟩ h

/-! #### The edges and the ticks -/

theorem rise_writes (s : State) : Writes (.input .rise) s (rise s) := by
  rcases rise_cases s with ⟨-, e⟩ | ⟨-, _, -, ⟨-, -, e⟩ | ⟨-, e⟩⟩ | ⟨-, -, ⟨-, e⟩ | ⟨-, e⟩⟩ <;>
    rw [e]
  · exact .response rfl
  · exact .rise rfl rfl fun hset => by simp [hset]
  · exact .rise rfl rfl id
  · exact .rise rfl rfl fun hset => by simp [hset]
  · exact .rise rfl rfl id

theorem tick_writes (s : State) : Writes (.input .tick) s (tick s) :=
  .tick rfl <| by
    rcases tick_cases s with ⟨-, e⟩ | ⟨-, -, e⟩ | ⟨-, -, e⟩ <;> rw [e]

/-! #### The handlers -/

theorem dtService_writes (s : State) : Writes .dtService s (dtService s) :=
  .dtService rfl <| by
    unfold dtService
    rcases dtStop_cases (enterExpiry s) with ⟨-, e⟩ | ⟨-, e⟩ <;> rw [e]
    · rcases writePin_cases { enterExpiry s with dtRunning := false } with ⟨-, e⟩ | ⟨_, -, e⟩ <;>
        rw [e] <;> rfl
    · rcases writePin_cases (enterExpiry s) with ⟨-, e⟩ | ⟨_, -, e⟩ <;> rw [e] <;> rfl

theorem flipService_writes (hflip : s.evtFlipPending = true) :
    Writes .wpService s (wpService s) := by
  rw [wpService_of_flip hflip]
  rcases wpBranch_cases s.evtFlipVal.val
      { s with evtFlipPending := false, triggerCount := s.triggerCount + 1 } with
    ⟨-, -, -, e⟩ | ⟨hN, -⟩ | ⟨-, -, e⟩
  · rw [e, flipBranch]
    rcases schedule_cases .low
        { s with evtFlipPending := false, triggerCount := s.triggerCount + 1 } with
      ⟨-, e⟩ | ⟨-, e⟩ <;> rw [e] <;>
      exact .flipService rfl rfl fun hset => by simp [hset]
  · exact absurd hN (Nat.ne_of_lt s.evtFlipVal.isLt)
  · rw [e]
    exact .flipService rfl rfl id

theorem ecClear_fullServiceWrites (s : State) : FullServiceWrites s (ecClear s).2 := by
  rcases ecClear_cases s with ⟨-, e⟩ | ⟨-, e⟩ <;> rw [e] <;> exact ⟨rfl, id, id⟩

theorem dcApplyPending_fullServiceWrites (s : State) : FullServiceWrites s (dcApplyPending s) := by
  rcases dcApplyPending_cases s with e | e | ⟨-, r, -, sticky, e⟩ <;> rw [e]
  · exact ⟨rfl, id, id⟩
  · exact ⟨rfl, id, id⟩
  · exact ⟨rfl, id, sticky⟩

theorem schedule_fullServiceWrites (level : Level) (s : State) :
    FullServiceWrites s (schedule level s) := by
  rcases schedule_cases level s with ⟨-, e⟩ | ⟨-, e⟩ <;> rw [e] <;>
    exact ⟨rfl, fun hset => by simp [hset], id⟩

/-- The handler's parts in their order: the latch, the trigger and the time-keeping, the clear, the
application, the arm (R158). -/
theorem fullService_writes (hflip : s.evtFlipPending = false) :
    Writes .wpService s (wpService s) := by
  have henter : enterWatchPoint s = (Config.N, { s with evtFullPending := false }) :=
    if_neg (Bool.eq_false_iff.1 hflip)
  have hrecord : FullServiceWrites s
      (recordCycle (countTrigger { s with evtFullPending := false })) := ⟨rfl, id, id⟩
  have hfull : FullServiceWrites s (fullBranch (countTrigger { s with evtFullPending := false })) :=
    ((hrecord.trans (ecClear_fullServiceWrites _)).trans
      (dcApplyPending_fullServiceWrites _)).trans (schedule_fullServiceWrites _ _)
  rw [wpService, henter]
  exact .fullService rfl hflip hfull

theorem wpService_writes (s : State) : Writes .wpService s (wpService s) := by
  cases hflip : s.evtFlipPending with
  | true => exact flipService_writes hflip
  | false => exact fullService_writes hflip

/-! #### One step -/

theorem fire_writes (hne : l ≠ .input .reset) (h : fire l s = .next t) : Writes l s t := by
  cases l with
  | wpService => cases h; exact wpService_writes s
  | dtService => cases h; exact dtService_writes s
  | input e =>
    cases e with
    | rise => cases h; exact rise_writes s
    | fall => cases h; exact .response rfl
    | tick => cases h; exact tick_writes s
    | cmd w => exact command_writes h
    | reset => exact absurd rfl hne

/-- The schedule's two lists are all that a step changes before the step of its label. -/
theorem step_writes (hl : nextLabel? s = some l) (hne : l ≠ .input .reset)
    (h : step s = .next t) : ∃ e d, Writes l { s with inputs := e, deferrals := d } t := by
  rw [step_of_nextLabel hl] at h
  obtain ⟨d, hd⟩ := exists_spendDeferral_eq s
  rw [hd] at h
  cases l with
  | input e => exact ⟨_, d, fire_writes hne h⟩
  | wpService | dtService => exact ⟨s.inputs, d, fire_writes hne h⟩

end

/-! ### The obligations -/

/-- Settles O46: in RUNNING the frames left to a command (`command_writes`) are those of an answer, of a
request and of the notification. -/
theorem taskWritesOnlyRequestWhileRunning : Obligations.TaskWritesOnlyRequestWhileRunning := by
  intro w s t hr h
  cases command_writes h with
  | response h | setPending _ _ h | takeApplyResult _ h => rw [h]
  | engStart _ hidle => simp [hr] at hidle
  | configureCounter _ hn | moveFlip _ hn | moveFull _ hn | clearCounter _ hn
  | configureTimer _ hn | startTimer _ hn | stopTimer _ hn | setActive _ hn => exact absurd hr hn
  | rise hl | tick hl | dtService hl | flipService hl | fullService hl => cases hl

/-- Settles O48: three of the frames hold a fault flag, and their steps keep it where it is set
(`step_writes`); no other step writes one. -/
theorem faultFlagsAreSticky : Obligations.FaultFlagsAreSticky := by
  intro s t h hne
  rcases step_cases h with ⟨-, rfl⟩ | ⟨l, hl, -⟩
  · simp
  obtain ⟨e, d, hw⟩ := step_writes hl (fun hreset => hne (hreset ▸ hl)) h
  cases hw with
  | rise _ h sticky => exact ⟨sticky, by rw [h]; exact id, by rw [h]; exact id⟩
  | flipService _ h sticky => exact ⟨by rw [h]; exact id, sticky, by rw [h]; exact id⟩
  | fullService _ _ h => exact ⟨by rw [h.frame]; exact id, h.supersedeSticky, h.unrestoredSticky⟩
  | response h | tick _ h | dtService _ h | configureCounter _ _ h | moveFlip _ _ h
  | moveFull _ _ h | clearCounter _ _ h | configureTimer _ _ h | startTimer _ _ h
  | stopTimer _ _ h | engStart _ _ h | setActive _ _ h | setPending _ _ h
  | takeApplyResult _ h => rw [h]; exact ⟨id, id, id⟩

/-- Settles O47: with the fields of its row replaced (`step_writes`), a step changes no other field,
and each field it may change names it among its writers. -/
theorem everyFieldHasItsWriters : Obligations.EveryFieldHasItsWriters := by
  intro s t l hl hne h
  obtain ⟨e, d, hw⟩ := step_writes hl hne h
  cases hw with
  | response h => rw [h]; simp
  | fullService hl hflip h => rw [h.frame]; simp [hl, show s.evtFlipPending = false from hflip]
  | rise hl h | tick hl h | dtService hl h | flipService hl h | engStart hl _ h
  | takeApplyResult hl h => rw [h]; simp [hl]
  | configureCounter hl hn h | moveFlip hl hn h | moveFull hl hn h | clearCounter hl hn h
  | configureTimer hl hn h | startTimer hl hn h | stopTimer hl hn h | setActive hl hn h =>
    have hn : s.engState ≠ .running := hn
    rw [h]
    simp [hl, hn]
  | setPending hl hr h =>
    have hr : s.engState = .running := hr
    rw [h]
    simp [hl, hr]

end Sys2Proof.Machine

/-! ## RESET (O52) -/

namespace Sys2Proof.Machine

/-- Settles O52: the step is `resetStep`, which takes all but `now` and the environment's fields
from `State.reset`. -/
theorem resetWritesEveryFieldButNow : Obligations.ResetWritesEveryFieldButNow :=
  fun _ hl => step_of_nextLabel hl

end Sys2Proof.Machine

/-! ## Spaced edges supersede no intent (O59) -/

namespace Sys2Proof.Machine

/-! ### What writes the record of a superseded intent (R160, R214) -/

section
variable {s t : State}

/-- Only the watch-point handler, and a reset, may write it. -/
theorem Writes.faultArmSupersede {l : Label} (hw : Writes l s t) (hne : l ≠ .wpService) :
    t.faultArmSupersede = s.faultArmSupersede := by
  cases hw with
  | flipService hl | fullService hl => exact absurd hl hne
  | response h | rise _ h | tick _ h | dtService _ h | configureCounter _ _ h | moveFlip _ _ h
  | moveFull _ _ h | clearCounter _ _ h | configureTimer _ _ h | startTimer _ _ h
  | stopTimer _ _ h | engStart _ _ h | setActive _ _ h | setPending _ _ h
  | takeApplyResult _ h => rw [h]

theorem schedule_faultArmSupersede (l : Level) (hpol : s.pol = none) :
    (schedule l s).faultArmSupersede = s.faultArmSupersede := by
  rcases schedule_cases l s with ⟨-, e⟩ | ⟨-, e⟩ <;> rw [e] <;> simp [hpol]

/-- The intent and the record as the FULL branch finds them when it schedules the next level. -/
theorem boundary_intent (s : State) :
    (dcApplyPending (ecClear (recordCycle s)).2).pol = s.pol ∧
      (dcApplyPending (ecClear (recordCycle s)).2).faultArmSupersede = s.faultArmSupersede := by
  rw [dcApplyPending_eq_withApplication]
  rcases ecClear_cases (recordCycle s) with ⟨-, e⟩ | ⟨-, e⟩ <;> rw [e] <;> exact ⟨rfl, rfl⟩

/-- With no intent outstanding no branch supersedes one (R160). -/
theorem wpBranch_faultArmSupersede (v : Nat) (hpol : s.pol = none) :
    (wpBranch v s).faultArmSupersede = s.faultArmSupersede := by
  rcases wpBranch_cases v s with ⟨-, -, -, e⟩ | ⟨-, e⟩ | ⟨-, -, e⟩ <;> rw [e]
  · exact schedule_faultArmSupersede .low hpol
  · obtain ⟨hpol', hflag⟩ := boundary_intent s
    exact (schedule_faultArmSupersede _ (hpol'.trans hpol)).trans hflag

theorem wpService_faultArmSupersede (hpol : s.pol = none) :
    (wpService s).faultArmSupersede = s.faultArmSupersede := by
  have henter : (countTrigger (enterWatchPoint s).2).pol = s.pol ∧
      (countTrigger (enterWatchPoint s).2).faultArmSupersede = s.faultArmSupersede := by
    rcases enterWatchPoint_cases s with ⟨-, e⟩ | ⟨-, e⟩ <;> rw [e] <;> exact ⟨rfl, rfl⟩
  obtain ⟨hpol', hflag⟩ := henter
  exact (wpBranch_faultArmSupersede _ (hpol'.trans hpol)).trans hflag

/-! ### One step of the reference schedule (R9) -/

theorem running_of_due (hh : handlerEnabled s = true) : s.engState = .running := by
  by_contra hn
  rw [(handlerEnabled_eq_false_iff s).2 fun hr => absurd hr hn] at hh
  exact absurd hh (by decide)

/-- In the reference schedule the due handler runs; with none due, the environment's next step, if
it takes one. -/
theorem step_cases_of_eager (he : Eager s) (h : step s = .next t) :
    (handlerEnabled s = true ∧ t = handleDue s) ∨
    (Quiet s ∧ (t = s ∨ ∃ e rest, s.inputs = e :: rest ∧
      fire (.input e) { s with inputs := rest } = .next t)) := by
  cases hh : handlerEnabled s with
  | true => exact .inl ⟨rfl, Host.Outcome.next.inj (h.symm.trans (step_of_due he hh))⟩
  | false =>
    have hq : Quiet s := hh
    refine .inr ⟨hq, ?_⟩
    cases hin : s.inputs with
    | nil =>
      have hl : nextLabel? s = none := by rw [nextLabel?_of_quiet hq, hin]; rfl
      rw [step_of_noLabel hl, spendDeferral_of_quiet hq] at h
      exact .inl (Host.Outcome.next.inj h).symm
    | cons e rest => exact .inr ⟨e, rest, rfl, (step_input_of_quiet hq hin).symm.trans h⟩

theorem step_eager (he : Eager s) (h : step s = .next t) : Eager t := by
  rcases step_cases_of_eager he h with ⟨hh, -⟩ | ⟨-, rfl | ⟨_, _, -, hf⟩⟩
  · exact (due_step he hh h).1
  · exact he
  · exact (fire_draws hf).1.trans he

/-! ### The envelope of R240 -/

variable {d d' : Nat}

theorem spacedState_of_quiet (hi : Invariants s) (ha : IntentArmed s) (hq : Quiet s) (he : Eager s)
    (hs : edgesSpaced d s.inputs)
    (ht : s.engState = .running → s.dtRunning = true → d ≤ s.dtCount.toNat)
    (hf : s.faultArmSupersede = false) : SpacedState d s where
  invariants := hi
  intentArmed := ha
  eager := he
  oneLatch hr := ((quiet_iff s).1 hq hr).le.trans zero_le_one
  spaced := hs
  timerSinceEdge := ht
  eventAtEdge hr hev := by
    obtain ⟨-, hflip, hfull⟩ := latches_of_quiet hq hr
    simp [hflip, hfull] at hev
  unsuperseded := hf

/-- O57 and O58: a running engine has at most one handler due after each step. -/
theorem SpacedState.oneLatch_step (h : SpacedState d s) (hstep : step s = .next t)
    (hr : t.engState = .running) : latchesSet t ≤ 1 := by
  cases hh : handlerEnabled s with
  | false => exact (atMostOneHandlerDue s t hh hstep hr).1
  | true =>
    obtain ⟨-, hless, -⟩ := due_step h.eager hh hstep
    exact hless.le.trans (h.oneLatch (running_of_due hh))

/-- What is left to show of a step: the four clauses about edges and the timer. -/
theorem SpacedState.of_step (h : SpacedState d s) (hstep : step s = .next t)
    (hs : edgesSpaced d' t.inputs)
    (ht : t.engState = .running → t.dtRunning = true → d' ≤ t.dtCount.toNat)
    (hev : t.engState = .running → t.evtFlipPending = true ∨ t.evtFullPending = true →
      d' = 0 ∧ t.dtRunning = false)
    (hf : t.faultArmSupersede = false) : SpacedState d' t where
  invariants := stepKeepsTheInvariants s t h.invariants hstep
  intentArmed := stepKeepsIntentArmed s t h.invariants h.intentArmed hstep
  eager := step_eager h.eager hstep
  oneLatch := h.oneLatch_step hstep
  spaced := hs
  timerSinceEdge := ht
  eventAtEdge := hev
  unsuperseded := hf

/-- As `of_step`, where the step leaves no watch-point event of a running engine. -/
theorem SpacedState.of_step_without_event (h : SpacedState d s) (hstep : step s = .next t)
    (hs : edgesSpaced d' t.inputs)
    (ht : t.engState = .running → t.dtRunning = true → d' ≤ t.dtCount.toNat)
    (hev : t.engState = .running → t.evtFlipPending = false ∧ t.evtFullPending = false)
    (hf : t.faultArmSupersede = false) : SpacedState d' t := by
  refine h.of_step hstep hs ht (fun hr hset => ?_) hf
  obtain ⟨hflip, hfull⟩ := hev hr
  simp [hflip, hfull] at hset

/-- The key fact: a countdown that began at or before the last edge is over when the next one is
due, for it takes 2000 microseconds (I7) and the edge comes later (R240). -/
theorem SpacedState.stopped_at_edge (h : SpacedState d s) (hr : s.engState = .running)
    (hd : Config.dtAlarm < d) : s.dtRunning = false := by
  rw [Bool.eq_false_iff]
  intro hrun
  obtain ⟨hlt, -⟩ := h.invariants.timerBelowAlarm hrun
  have hold := h.timerSinceEdge hr hrun
  omega

/-! #### The environment's steps -/

section
variable {rest : List Input}

theorem SpacedState.spaced_of_inputs {es : List Input} (h : SpacedState d s) (hin : s.inputs = es) :
    edgesSpaced d es := hin ▸ h.spaced

theorem SpacedState.unsuperseded_input {e : Input} (h : SpacedState d s) (hne : e ≠ .reset)
    (hf : fire (.input e) { s with inputs := rest } = .next t) : t.faultArmSupersede = false :=
  ((fire_writes (by simpa using hne) hf).faultArmSupersede nofun).trans h.unsuperseded

theorem rise_dtRunning (s : State) : (rise s).dtRunning = s.dtRunning := by
  rcases rise_cases s with ⟨-, e⟩ | ⟨-, _, -, ⟨-, -, e⟩ | ⟨-, e⟩⟩ | ⟨-, -, ⟨-, e⟩ | ⟨-, e⟩⟩ <;>
    rw [e] <;> rfl

theorem tick_events (s : State) :
    (tick s).evtFlipPending = s.evtFlipPending ∧ (tick s).evtFullPending = s.evtFullPending := by
  rcases tick_cases s with ⟨-, e⟩ | ⟨-, -, e⟩ | ⟨-, -, e⟩ <;> rw [e] <;> exact ⟨rfl, rfl⟩

/-- A countdown that goes on has counted the tick (R128). -/
theorem tick_dtCount (hi : Invariants s) (hrun : (tick s).dtRunning = true) :
    s.dtRunning = true ∧ (tick s).dtCount.toNat = s.dtCount.toNat + 1 := by
  rcases tick_cases s with ⟨hstop, e⟩ | ⟨hcount, -, e⟩ | ⟨-, -, e⟩ <;> rw [e] at hrun ⊢
  · exact absurd (hrun.symm.trans hstop) (by decide)
  · obtain ⟨hlt, -⟩ := hi.timerBelowAlarm hcount
    refine ⟨hcount, ?_⟩
    unfold Config.dtAlarm at hlt
    simp only
    bv_omega
  · cases hrun

/-- A command leaves the timer and the latches of a running engine alone, and a start leaves them
stopped and clear (R214, R136). -/
theorem command_keeps_or_clears {w : Word} (h : command w s = .next t)
    (hr : t.engState = .running) :
    (s.engState = .running ∧ t.dtRunning = s.dtRunning ∧ t.dtCount = s.dtCount ∧
      t.evtFlipPending = s.evtFlipPending ∧ t.evtFullPending = s.evtFullPending) ∨
    (t.dtRunning = false ∧ t.evtFlipPending = false ∧ t.evtFullPending = false) := by
  rcases command_of_running h hr with ⟨hs, e⟩ | ⟨hok, rfl⟩
  · rw [e]
    exact .inl ⟨hs, rfl, rfl, rfl, rfl⟩
  · rcases engSetup_cases s with ⟨hno, -⟩ | ⟨-, _, _, _, -, e⟩
    · exact absurd hok hno
    · rw [e]
      exact .inr ⟨rfl, rfl, rfl⟩

/-- The last edge is the one just taken, and it finds the timer stopped. -/
theorem SpacedState.rise (h : SpacedState d s) (hq : Quiet s) (hin : s.inputs = .rise :: rest) :
    SpacedState 0 (Machine.rise { s with inputs := rest }) := by
  obtain ⟨hd, hrest⟩ : Config.dtAlarm < d ∧ edgesSpaced 0 rest := h.spaced_of_inputs hin
  refine h.of_step (step_input_of_quiet hq hin) ?_ (fun _ _ => Nat.zero_le _) (fun hr _ => ?_)
    (h.unsuperseded_input (e := .rise) (by decide) rfl)
  · rwa [rise_inputs]
  · rw [rise_engState] at hr
    exact ⟨rfl, (rise_dtRunning _).trans (h.stopped_at_edge hr hd)⟩

/-- The last edge and the countdown age together. -/
theorem SpacedState.tick (h : SpacedState d s) (hq : Quiet s) (hin : s.inputs = .tick :: rest) :
    SpacedState (d + 1) (Machine.tick { s with inputs := rest }) := by
  have hrest : edgesSpaced (d + 1) rest := h.spaced_of_inputs hin
  refine h.of_step_without_event (step_input_of_quiet hq hin) ?_ (fun hr hrun => ?_)
    (fun hr => ?_) (h.unsuperseded_input (e := .tick) (by decide) rfl)
  · rwa [(tick_frame _).1]
  · rw [tick_engState] at hr
    have hi : Invariants { s with inputs := rest } := { h.invariants with }
    obtain ⟨hcount, hnext⟩ := tick_dtCount hi hrun
    rw [hnext]
    exact Nat.succ_le_succ (h.timerSinceEdge hr hcount)
  · rw [tick_engState] at hr
    obtain ⟨-, hflip, hfull⟩ := latches_of_quiet hq hr
    obtain ⟨hflip', hfull'⟩ := tick_events { s with inputs := rest }
    exact ⟨hflip'.trans hflip, hfull'.trans hfull⟩

theorem SpacedState.fall (h : SpacedState d s) (hq : Quiet s) (hin : s.inputs = .fall :: rest) :
    SpacedState d { s with inputs := rest } := by
  have hrest : edgesSpaced d (.fall :: rest) := h.spaced_of_inputs hin
  exact h.of_step (step_input_of_quiet hq hin) hrest h.timerSinceEdge h.eventAtEdge h.unsuperseded

theorem SpacedState.reset (h : SpacedState d s) (hq : Quiet s) (hin : s.inputs = .reset :: rest) :
    SpacedState d (resetStep { s with inputs := rest }) := by
  have hrest : edgesSpaced d (.reset :: rest) := h.spaced_of_inputs hin
  exact h.of_step (step_input_of_quiet hq hin) hrest nofun nofun rfl

theorem SpacedState.cmd {w : Word} (h : SpacedState d s) (hq : Quiet s)
    (hin : s.inputs = .cmd w :: rest)
    (hf : fire (.input (.cmd w)) { s with inputs := rest } = .next t) : SpacedState d t := by
  have hstep : step s = .next t := (step_input_of_quiet hq hin).trans hf
  have hrest : edgesSpaced d (.cmd w :: rest) := h.spaced_of_inputs hin
  refine h.of_step_without_event hstep (fire_inputs hf ▸ hrest) (fun hr hrun => ?_) (fun hr => ?_)
    (h.unsuperseded_input (by simp) hf)
  · rcases command_keeps_or_clears hf hr with ⟨hs, hrun', hcount, -⟩ | ⟨hstop, -⟩
    · rw [hcount]
      exact h.timerSinceEdge hs (hrun'.symm.trans hrun)
    · exact absurd (hstop.symm.trans hrun) (by decide)
  · rcases command_keeps_or_clears hf hr with ⟨hs, -, -, hflip', hfull'⟩ | ⟨-, hclear⟩
    · obtain ⟨-, hflip, hfull⟩ := latches_of_quiet hq hs
      exact ⟨hflip'.trans hflip, hfull'.trans hfull⟩
    · exact hclear

end

/-! #### The handlers -/

theorem dtService_dtRunning (hdt : s.dtConfigured = true) : (dtService s).dtRunning = false := by
  rw [dtService_of_configured hdt]
  rcases writePin_cases { s with dtEvtPending := false, dtRunning := false } with
    ⟨-, e⟩ | ⟨_, -, e⟩ <;> rw [e]

/-- The expiry handler leaves no countdown; the watch-point handler runs at its edge, where the
timer is stopped and so no intent is outstanding. -/
theorem SpacedState.handleDue (h : SpacedState d s) (hh : handlerEnabled s = true) :
    SpacedState d (Machine.handleDue s) := by
  have hr := running_of_due hh
  have hstep := step_of_due h.eager hh
  obtain ⟨hquiet, hin, -⟩ := dueHandlerLeavesQuiet s _ h.eager (h.oneLatch hr) hh hstep
  have hevent : (Machine.handleDue s).engState = .running →
      (Machine.handleDue s).evtFlipPending = false ∧
        (Machine.handleDue s).evtFullPending = false := fun hr' =>
    (latches_of_quiet hquiet hr').2
  have hspaced : edgesSpaced d (Machine.handleDue s).inputs := hin ▸ h.spaced
  cases hexp : s.dtEvtPending with
  | true =>
    obtain ⟨-, hdt, -⟩ := h.invariants.runningConfigured hr
    rw [handleDue_of_expiry hr hexp] at hstep hspaced hevent ⊢
    refine h.of_step_without_event hstep hspaced (fun _ hrun => ?_) hevent ?_
    · exact absurd ((dtService_dtRunning hdt).symm.trans hrun) (by decide)
    · exact ((dtService_writes s).faultArmSupersede nofun).trans h.unsuperseded
  | false =>
    have hw : s.evtFlipPending = true ∨ s.evtFullPending = true := by
      simpa [handlerEnabled, dtEnabled, wpEnabled, hr, hexp] using hh
    obtain ⟨rfl, hstop⟩ := h.eventAtEdge hr hw
    have hpol : s.pol = none := by
      by_contra hset
      simpa [hexp, hstop] using (h.intentArmed hr).1 hset
    rw [handleDue_of_watchPoint hr hexp hw] at hstep hspaced hevent ⊢
    exact h.of_step_without_event hstep hspaced (fun _ _ => Nat.zero_le _) hevent
      ((wpService_faultArmSupersede hpol).trans h.unsuperseded)

/-- The step lemma: each label's step leads from a spaced state to a spaced state. -/
theorem SpacedState.step (h : SpacedState d s) (hstep : Machine.step s = .next t) :
    ∃ d', SpacedState d' t := by
  rcases step_cases_of_eager h.eager hstep with ⟨hh, rfl⟩ | ⟨hq, rfl | ⟨e, rest, hin, hf⟩⟩
  · exact ⟨d, h.handleDue hh⟩
  · exact ⟨d, h⟩
  cases e with
  | rise => cases hf; exact ⟨0, h.rise hq hin⟩
  | tick => cases hf; exact ⟨d + 1, h.tick hq hin⟩
  | fall => cases hf; exact ⟨d, h.fall hq hin⟩
  | reset => cases hf; exact ⟨d, h.reset hq hin⟩
  | cmd w => exact ⟨d, h.cmd hq hin hf⟩

end

/-- Settles O59: an edge finds the timer stopped (`SpacedState.stopped_at_edge`) and so, with no arm
outstanding, no intent for its event's handler to supersede (`SpacedState.handleDue`). -/
theorem spacedEdgesNeverSupersede : Obligations.SpacedEdgesNeverSupersede :=
  ⟨fun _ _ => spacedState_of_quiet, fun _ _ _ => SpacedState.step⟩

end Sys2Proof.Machine

/-! ## The first boundary after a start (O37) -/

namespace Sys2Proof.Machine

/-! ### Runs all of whose states have a property -/

/-- Some run leads from `s` to `u`, and all states in it, both ends too, have the property `P`. -/
def RunsWithin (P : State → Prop) (s u : State) : Prop :=
  ∃ k, RunsTo k s u ∧ ∀ j ≤ k, ∀ v, RunsTo j s v → P v

section
variable {P : State → Prop} {s t u : State}

theorem RunsWithin.refl (hP : P s) : RunsWithin P s s := by
  refine ⟨0, runsTo_zero s, fun j hj v hv => ?_⟩
  obtain rfl : j = 0 := Nat.le_zero.1 hj
  exact (runsTo_zero s).unique hv ▸ hP

theorem RunsWithin.trans (h : RunsWithin P s t) (h' : RunsWithin P t u) : RunsWithin P s u := by
  obtain ⟨i, hi, hP⟩ := h
  obtain ⟨k, hk, hP'⟩ := h'
  refine ⟨i + k, hi.trans hk, fun j hj v hv => ?_⟩
  rcases Nat.lt_or_ge j i with hlt | hge
  · exact hP j hlt.le v hv
  · obtain ⟨m, rfl⟩ := Nat.exists_eq_add_of_le hge
    exact hP' m (Nat.le_of_add_le_add_left hj) v (hi.rest hv)

theorem runsWithin_of_step (h : step s = .next t) (hs : P s) (ht : P t) : RunsWithin P s t := by
  have hone : RunsTo 1 s t := (runsTo_zero s).snoc h
  refine ⟨1, hone, fun j hj v hv => ?_⟩
  rcases Nat.le_one_iff_eq_zero_or_eq_one.1 hj with rfl | rfl
  · exact (runsTo_zero s).unique hv ▸ hs
  · exact hone.unique hv ▸ ht

/-- The environment's step and the handler it makes due, if any: two steps or one. -/
theorem runsWithin_handleDue {x : State} {e : Input} {rest : List Input} (hq : Quiet s)
    (hin : s.inputs = e :: rest) (hfire : fire (.input e) { s with inputs := rest } = .next x)
    (hx : Eager x) (hs : P s) (hPx : P x) (hdue : P (handleDue x)) :
    RunsWithin P s (handleDue x) := by
  have hfirst := runsWithin_of_step ((step_input_of_quiet hq hin).trans hfire) hs hPx
  cases hh : handlerEnabled x with
  | false => rwa [handleDue_of_quiet hh]
  | true => exact hfirst.trans (runsWithin_of_step (step_of_due hx hh) hPx hdue)

theorem handleDue_inputs (he : Eager s) : (handleDue s).inputs = s.inputs := by
  cases hh : handlerEnabled s with
  | false => rw [handleDue_of_quiet hh]
  | true =>
    obtain ⟨-, -, hin⟩ := due_step he hh (step_of_due he hh)
    exact hin

end

/-! ### What a start leaves (R136) -/

/-- What a successful `ENG_START` leaves on a LOW pin, as far as the first cycle depends on it. -/
structure Started (b : State) : Prop where
  poised : Poised b
  flipValid : b.wpFlipValid = needsFlip b.activeThreshold
  flipActive : b.wpFlipValid = true → b.wpFlipVal.val = b.activeThreshold.val
  count : b.ecCount = 0
  intent : b.pol = none
  out : b.out = .low
  triggers : b.triggerCount = 0
  cycles : b.cycleCount = 0
  noTimestamp : b.prevFullValid = false
  noCycleTime : b.lastCycleValid = false
  answered : b.respStatus = .ok

theorem drawAt_of_zeros {s : State} {n : Nat} {later : List Bool}
    (h : s.draws = List.replicate n false ++ later) : ∀ k < n, drawAt s k = false := by
  intro k hk
  rw [drawAt, h, List.getD_append _ _ _ _ (by simpa using hk), List.getD_replicate _ hk]

theorem exec_engStart_started {s : State} {later : List Bool} (hidle : s.engState = .idle)
    (he : Eager s) (hout : s.out = .low)
    (hdraws : s.draws = [false, false, false, false] ++ later) :
    ∃ b, exec .engStart s = .next b ∧ Started b ∧ b.inputs = s.inputs ∧
      b.activeThreshold = s.activeThreshold := by
  have hz : ∀ k < 4, drawAt s k = false := drawAt_of_zeros (n := 4) hdraws
  obtain ⟨hflip, hend⟩ := engStartArmsTheEngine.2 s hidle
  cases hn : needsFlip s.activeThreshold with
  | true =>
    obtain ⟨hpos, hlt⟩ := (needsFlip_iff _).1 hn
    refine ⟨_, hflip hpos hlt hz ⟨_, hlt⟩ rfl, ?_, rfl, rfl⟩
    exact ⟨⟨rfl, he, rfl, rfl, rfl, rfl, rfl⟩, hn.symm, fun _ => rfl, rfl, rfl, hout, rfl, rfl, rfl,
      rfl, rfl⟩
  | false =>
    have hedge : s.activeThreshold.val = 0 ∨ s.activeThreshold.val = 20 := by
      have hle := threshold_le_N s.activeThreshold
      have hno : ¬ (0 < s.activeThreshold.val ∧ s.activeThreshold.val < 20) := fun h =>
        absurd ((needsFlip_iff _).2 h) (by simp [hn])
      unfold Config.N at hle
      omega
    refine ⟨_, hend hedge fun k hk => hz k (hk.trans (by decide)), ?_, rfl, rfl⟩
    exact ⟨⟨rfl, he, rfl, rfl, rfl, rfl, rfl⟩, hn.symm, nofun, rfl, rfl, hout, rfl, rfl, rfl,
      rfl, rfl⟩

/-! ### The first cycle -/

/-- The quiet state after `e` edges of the first cycle from `b`: only a passed FLIP point has armed
the timer, and for LOW. -/
structure InFirstCycle (b : State) (e : Nat) (u : State) : Prop where
  frame : u = withClockwork u b
  count : u.ecCount.val = e
  intent : u.pol = none ∨ (u.pol = some .low ∧ b.activeThreshold.val ≤ e)
  out : u.out = .low
  triggers : u.triggerCount = if b.wpFlipValid = true ∧ b.activeThreshold.val ≤ e then 1 else 0

/-- The pin is LOW, and no cycle is completed before `rest` is all that is to come. -/
def LowUntil (rest : List Input) (v : State) : Prop :=
  v.out = .low ∧ (rest.length < v.inputs.length → v.cycleCount = 0)

section
variable {b u x : State} {e e' : Nat} {rest tail : List Input}

theorem Started.inFirstCycle (hb : Started b) : InFirstCycle b 0 b where
  frame := rfl
  count := congrArg Fin.val hb.count
  intent := .inl hb.intent
  out := hb.out
  triggers := by
    rw [hb.triggers, if_neg]
    rintro ⟨hv, hle⟩
    obtain ⟨hpos, -⟩ := (needsFlip_iff _).1 (hb.flipValid.symm.trans hv)
    omega

theorem InFirstCycle.cycleCount (hb : Started b) (h : InFirstCycle b e u) : u.cycleCount = 0 := by
  rw [h.frame]
  exact hb.cycles

/-- Through the first cycle the start's answer stands and no cycle has been timed. -/
theorem InFirstCycle.unmeasured (hb : Started b) (h : InFirstCycle b e u) :
    u.prevFullValid = false ∧ u.lastCycleValid = false ∧ u.respStatus = .ok := by
  rw [h.frame]
  exact ⟨hb.noTimestamp, hb.noCycleTime, hb.answered⟩

theorem InFirstCycle.lowUntil (hb : Started b) (h : InFirstCycle b e u) : LowUntil rest u :=
  ⟨h.out, fun _ => h.cycleCount hb⟩

theorem InFirstCycle.poised (hb : Started b) (h : InFirstCycle b e u) : Poised u :=
  hb.poised.of_frame h.frame

/-- The pin is LOW in `x` with no cycle completed, and the handler that `x` makes due, if any, leads
to where the first cycle has `e` edges behind it. -/
structure LandsInFirstCycle (b : State) (e : Nat) (x : State) : Prop where
  out : x.out = .low
  cycles : x.cycleCount = 0
  handled : InFirstCycle b e (handleDue x)

/-- Where no handler is made due. -/
theorem InFirstCycle.lands (hb : Started b) (h : InFirstCycle b e u) : LandsInFirstCycle b e u where
  out := h.out
  cycles := h.cycleCount hb
  handled := by rwa [handleDue_of_quiet (h.poised hb).quiet]

theorem InFirstCycle.of_inputs (h : InFirstCycle b e u) (rest : List Input) :
    InFirstCycle b e { u with inputs := rest } :=
  { h with frame := withClockwork_trans h.frame rfl }

/-- The expiry of the FLIP point's arm writes LOW over LOW: `x` is a state of the first cycle but
for the expiry latched in it. -/
theorem InFirstCycle.lands_expiry (hb : Started b) (hevt : x.dtEvtPending = true)
    (h : InFirstCycle b e { x with dtEvtPending := false }) : LandsInFirstCycle b e x := by
  have hp := h.poised hb
  have hcycles := h.cycleCount hb
  have hrun : x.engState = .running := hp.running
  have hdt : x.dtConfigured = true := hp.dtConfigured
  refine ⟨h.out, hcycles, ?_⟩
  rw [handleDue_of_expiry hrun hevt]
  rcases h.intent with hpol | ⟨hpol, -⟩
  · rw [dtService_of_no_intent hdt hpol]
    exact { h with frame := withClockwork_trans h.frame rfl }
  · rw [dtService_of_intent hdt hpol]
    exact { h with
      frame := withClockwork_trans h.frame rfl
      intent := .inl rfl
      out := rfl }

theorem InFirstCycle.lands_tick (hb : Started b) (h : InFirstCycle b e u) :
    LandsInFirstCycle b e (tick u) := by
  rcases tick_cases u with ⟨-, hx⟩ | ⟨-, -, hx⟩ | ⟨-, -, hx⟩ <;> rw [hx]
  · exact InFirstCycle.lands hb { h with frame := withClockwork_trans h.frame rfl }
  · exact InFirstCycle.lands hb { h with frame := withClockwork_trans h.frame rfl }
  · have hp := h.poised hb
    obtain ⟨hevt, -, -⟩ := latches_of_quiet hp.quiet hp.running
    refine InFirstCycle.lands_expiry hb rfl { h with frame := withClockwork_trans h.frame ?_ }
    simp [withClockwork, hevt]

/-- The edge on the FLIP point arms the timer for LOW, and it is the first to arm it. -/
theorem InFirstCycle.lands_rise_flip {c : Count} (hb : Started b) (h : InFirstCycle b e u)
    (hc : c.val = u.ecCount.val + 1) (hv : u.wpFlipValid = true) (hval : u.wpFlipVal = c) :
    LandsInFirstCycle b (e + 1) (postFlip c { u with ecCount := c }) := by
  obtain ⟨hvalid, hslot, hactive, -, -⟩ := fields_of_frame h.frame
  have hbv : b.wpFlipValid = true := hvalid.symm.trans hv
  have hact : c.val = b.activeThreshold.val := by rw [← hval, hslot, hb.flipActive hbv]
  have he : c.val = e + 1 := h.count ▸ hc
  have hpol : u.pol = none := h.intent.resolve_right fun ⟨_, hle⟩ => by omega
  have htriggers : u.triggerCount = 0 := h.triggers.trans (if_neg fun ⟨_, hle⟩ => by omega)
  have hlanded : Poised { u with ecCount := c } := { h.poised hb with }
  have hcycles := h.cycleCount hb
  refine ⟨h.out, hcycles, ?_⟩
  rw [hlanded.handleDue_postFlip (by omega) (hact.trans (congrArg Fin.val hactive.symm)) hpol]
  exact
    { frame := withClockwork_trans h.frame rfl
      count := he
      intent := .inr ⟨rfl, by omega⟩
      out := h.out
      triggers := by
        rw [if_pos ⟨hbv, by omega⟩, htriggers]
        rfl }

/-- An edge below the top that is not on the FLIP point counts, and no more. -/
theorem InFirstCycle.lands_rise_no_flip {c : Count} (hb : Started b) (h : InFirstCycle b e u)
    (hc : c.val = u.ecCount.val + 1) (hno : ¬ (u.wpFlipValid = true ∧ u.wpFlipVal = c)) :
    LandsInFirstCycle b (e + 1) { u with ecCount := c } := by
  obtain ⟨hvalid, hslot, -, -, -⟩ := fields_of_frame h.frame
  have he : c.val = e + 1 := h.count ▸ hc
  have hpast : (b.wpFlipValid = true ∧ b.activeThreshold.val ≤ e + 1) ↔
      (b.wpFlipValid = true ∧ b.activeThreshold.val ≤ e) := by
    refine and_congr_right fun hbv => ?_
    have hne : b.activeThreshold.val ≠ e + 1 := fun hact =>
      hno ⟨hvalid.trans hbv, Fin.ext (by rw [hslot, hb.flipActive hbv, hact, he])⟩
    omega
  exact InFirstCycle.lands hb
    { frame := withClockwork_trans h.frame rfl
      count := he
      intent := h.intent.imp_right fun ⟨hpol, hle⟩ => ⟨hpol, hle.trans (Nat.le_succ e)⟩
      out := h.out
      triggers := by simp only [hpast, h.triggers] }

theorem InFirstCycle.lands_rise (hb : Started b) (h : InFirstCycle b e u) (he : e + 1 < 20) :
    LandsInFirstCycle b (e + 1) (rise u) := by
  obtain ⟨c, hc⟩ : ∃ c : Count, c.val = u.ecCount.val + 1 := ⟨⟨_, h.count.symm ▸ he⟩, rfl⟩
  rw [rise_below (h.poised hb).ecConfigured hc, reachCount]
  split
  · next hflip =>
    obtain ⟨hv, hval⟩ := hflip
    exact h.lands_rise_flip hb hc hv hval
  · next hno => exact h.lands_rise_no_flip hb hc hno

/-- A step of the environment that lands well, and the handler it makes due. -/
theorem InFirstCycle.next {i : Input} (hb : Started b) (h : InFirstCycle b e u)
    (hin : u.inputs = i :: tail) (hfire : fire (.input i) { u with inputs := tail } = .next x)
    (hx : LandsInFirstCycle b e' x) :
    ∃ w, InFirstCycle b e' w ∧ w.inputs = tail ∧ RunsWithin (LowUntil rest) u w := by
  have hp := h.poised hb
  have he : Eager x := (fire_draws hfire).1.trans hp.eager
  exact ⟨_, hx.handled, (handleDue_inputs he).trans (fire_inputs hfire),
    runsWithin_handleDue hp.quiet hin hfire he (h.lowUntil hb) ⟨hx.out, fun _ => hx.cycles⟩
      (hx.handled.lowUntil hb)⟩

/-- Edges below the top, falling edges and ticks stay in the first cycle, by induction on them. -/
theorem InFirstCycle.runsWithin {early : List Input} (hb : Started b) (h : InFirstCycle b e u)
    (hin : u.inputs = early ++ tail) (hearly : ∀ i ∈ early, i = .rise ∨ i = .fall ∨ i = .tick)
    (hlt : e + early.count .rise < 20) :
    ∃ w, InFirstCycle b (e + early.count .rise) w ∧ w.inputs = tail ∧
      RunsWithin (LowUntil rest) u w := by
  induction early generalizing u e with
  | nil => exact ⟨u, h, hin, .refl (h.lowUntil hb)⟩
  | cons i is ih =>
    obtain ⟨e', he', x, hx, hxin, hux⟩ : ∃ e', e' + is.count .rise = e + (i :: is).count .rise ∧
        ∃ x, InFirstCycle b e' x ∧ x.inputs = is ++ tail ∧ RunsWithin (LowUntil rest) u x := by
      have htaken := h.of_inputs (is ++ tail)
      rcases hearly i List.mem_cons_self with rfl | rfl | rfl
      · rw [List.count_cons_self] at hlt ⊢
        exact ⟨e + 1, by omega, h.next hb hin rfl (htaken.lands_rise hb (by omega))⟩
      · rw [List.count_cons_of_ne (by decide)]
        exact ⟨e, rfl, h.next hb hin rfl (htaken.lands hb)⟩
      · rw [List.count_cons_of_ne (by decide)]
        exact ⟨e, rfl, h.next hb hin rfl (htaken.lands_tick hb)⟩
    obtain ⟨w, hw, hwin, hxw⟩ :=
      ih hx hxin (fun j hj => hearly j (List.mem_cons_of_mem _ hj)) (he' ▸ hlt)
    exact ⟨w, he' ▸ hw, hwin, hux.trans hxw⟩

/-! ### The twentieth edge -/

/-- The edge at the top is the boundary, and its handler ends the first cycle (R158). -/
theorem InFirstCycle.boundary (hb : Started b) (h : InFirstCycle b 19 u)
    (hin : u.inputs = .rise :: rest) : RunsWithin (LowUntil rest) u (cycleEnd u rest) := by
  have hp := h.poised hb
  have hlanded : Poised { u with inputs := rest, ecCount := 0 } := { hp with }
  have hrise : rise { u with inputs := rest } = postFull { u with inputs := rest, ecCount := 0 } :=
    (rise_at_top (hp.of_inputs rest).ecConfigured h.count).trans (if_pos hp.fullValid)
  have hfire : fire (.input .rise) { u with inputs := rest } =
      .next (postFull { u with inputs := rest, ecCount := 0 }) := congrArg _ hrise
  have hpath := runsWithin_handleDue (P := LowUntil rest) hp.quiet hin hfire hp.eager
    (h.lowUntil hb) ⟨h.out, fun hlt => absurd hlt (lt_irrefl _)⟩
  rw [hlanded.handleDue_postFull] at hpath
  exact hpath ⟨h.out, fun hlt => absurd hlt (lt_irrefl _)⟩

theorem Started.exists_cycleEnd {early : List Input} (hb : Started b)
    (hearly : ∀ i ∈ early, i = .rise ∨ i = .fall ∨ i = .tick) (hcount : early.count .rise = 19)
    (hin : b.inputs = early ++ .rise :: rest) :
    ∃ u, InFirstCycle b 19 u ∧ RunsWithin (LowUntil rest) b (cycleEnd u rest) := by
  obtain ⟨u, hu, huin, hbu⟩ := hb.inFirstCycle.runsWithin hb hin hearly (by omega)
  rw [hcount] at hu
  exact ⟨u, hu, hbu.trans (hu.boundary hb huin)⟩

/-- The FLIP event, where the threshold has one, and the FULL event. -/
theorem InFirstCycle.cycleEnd_triggerCount (hb : Started b) (h : InFirstCycle b 19 u) :
    (cycleEnd u rest).triggerCount =
      if 0 < b.activeThreshold.val ∧ b.activeThreshold.val < 20 then 2 else 1 := by
  have hflip : (b.wpFlipValid = true ∧ b.activeThreshold.val ≤ 19) ↔
      (0 < b.activeThreshold.val ∧ b.activeThreshold.val < 20) := by
    rw [hb.flipValid, needsFlip_iff]
    omega
  rw [cycleEnd, afterFull_triggerCount, h.triggers]
  simp only [hflip]
  split <;> rfl

end

/-- Settles O37: the start (`exec_engStart_started`), nineteen edges inside the first cycle
(`InFirstCycle.runsWithin`), and the twentieth, whose handler ends it (`InFirstCycle.boundary`). -/
theorem firstBoundaryIsTheTwentiethEdge : Obligations.FirstBoundaryIsTheTwentiethEdge := by
  intro s early rest later hidle he hout hdraws hearly hcount hin
  have hq : Quiet s := (quiet_iff s).2 fun hr => absurd (hidle.symm.trans hr) (by decide)
  obtain ⟨b, hexec, hb, hbin, hactive⟩ :=
    exec_engStart_started (s := { s with inputs := early ++ .rise :: rest }) hidle he hout hdraws
  have hstart : step s = .next b := by
    rw [step_input_of_quiet hq hin, fire_cmd_of_decode (decode_encode rfl), hexec]
  obtain ⟨u, hu, k, hk, hlow⟩ := hb.exists_cycleEnd hearly hcount hbin
  have hp := hu.poised hb
  obtain ⟨hnots, hnotime, hanswer⟩ := hu.unmeasured hb
  obtain ⟨-, -, hactive', -, -⟩ := fields_of_frame hu.frame
  have hsame : u.activeThreshold = s.activeThreshold := hactive'.trans hactive
  refine ⟨k + 1, cycleEnd u rest, runsTo_succ_iff.2 ⟨b, hstart, hk⟩, rfl, hp.cycleEnd_quiet rest,
    hp.running, ?_, rfl, rfl, rfl, ?_, hanswer, ?_, ?_, rfl, rfl, fun j hj v hv => ?_⟩
  · exact congrArg (· + 1) (hu.cycleCount hb)
  · exact Bool.or_eq_false_iff.2 ⟨hnotime, hnots⟩
  · exact hactive ▸ hu.cycleEnd_triggerCount hb
  · exact hsame ▸ afterFull_pol _ _
  · cases j with
    | zero =>
      obtain rfl := (runsTo_zero s).unique hv
      exact ⟨hout, fun hpos => absurd hpos (lt_irrefl 0)⟩
    | succ j =>
      obtain ⟨r, hr, hrv⟩ := runsTo_succ_iff.1 hv
      obtain rfl : b = r := Host.Outcome.next.inj (hstart.symm.trans hr)
      obtain ⟨hvout, hcycles⟩ := hlow j (Nat.le_of_succ_le_succ hj) v hrv
      exact ⟨hvout, fun _ => hcycles⟩

end Sys2Proof.Machine
